-- ==== Sys2Proof/Word.lean ====
section
/-! DEFINITION. The word types of the block: the 32-bit command word (R80) and the 16-bit register,
data and response word (R47, R65, R82). -/

namespace Sys2Proof

/-- One command word on the command port (30_encoding.md R80). -/
abbrev Word := BitVec 32

/-- One register value, write datum or response (10_state.md R47, 30_encoding.md R82). -/
abbrev Half := BitVec 16

end Sys2Proof
end

