-- ==== Sys2Proof/Config.lean ====
section
/-! DEFINITION. The configuration parameters of the block (00_scope.md R8 to R14). They are fixed
when the block is built and no command changes them (10_state.md R22). The parameters to which the
spec gives no value are opaque constants without a body, so nothing can be proved of their values. -/

namespace Sys2Proof

/-- The pair `{R4, R5}` as one value, R4 in bits 8..5 and R5 in bits 4..0 (the packing of R125). -/
abbrev PolyPair := BitVec 9

/-- One entry of POLY_RULES (00_scope.md R11): one of the eight default bodies of
40_waveform_generator.md, or any other update function of `{R4, R5}`, given by its values
(DESIGN CHOICE of the form, log 9). -/
inductive PolyRule where
  /-- `R4 <- t4(R4)` (R119). -/
  | tap4
  /-- `R5 <- t5(R5); if condA(R5): R4 <- t4(R4)` (R120). -/
  | tap5CondATap4
  /-- `R5 <- t5(R5); if condB(R5): R4 <- t4(R4)` (R121). -/
  | tap5CondBTap4
  /-- `R4 <- div2(R4)` (R122). -/
  | div2
  /-- `R5 <- t5(R5); if condA(R5): R4 <- div2(R4)` (R123). -/
  | tap5CondADiv2
  /-- `R5 <- t5(R5); if condB(R5): R4 <- div2(R4)` (R124). -/
  | tap5CondBDiv2
  /-- the joint 9-bit shift, "poly9" (R125). -/
  | poly9
  /-- R5 steps and R4 is a delay line behind it, "poly5" (R126). -/
  | poly5
  /-- any other update function: entry `n` is the new `{R4, R5}` when the old one is `n` (R11). -/
  | given (next : Vector PolyPair 512)
  deriving DecidableEq, Repr

/-- The configuration parameters (00_scope.md R8 to R14, 10_state.md R22). -/
structure Config where
  /-- PATTERN_TABLE, indexed 0..7 (R12). -/
  patternTable : Vector Half 8
  /-- NOTE_PERIOD, indexed 0..127 (R13). -/
  notePeriod : Vector Half 128
  /-- PRNG_A_SEED (R8). -/
  prngASeed : BitVec 16
  /-- PRNG_B_SEED (R8). -/
  prngBSeed : BitVec 16
  /-- PRNG_SHARED (R9). -/
  prngShared : Bool
  /-- POLY4_SEED (R10). -/
  poly4Seed : BitVec 4
  /-- POLY5_SEED (R10). -/
  poly5Seed : BitVec 5
  /-- POLY_RULES, indexed 0..7 (R11). -/
  polyRules : Vector PolyRule 8
  /-- TIMER_CLOCK_HZ, which no rule reads (R14). -/
  timerClockHz : Nat
  deriving DecidableEq, Repr

/-- PATTERN_TABLE of the block at hand: the spec gives no values (R12). -/
opaque Config.openPatternTable : Vector Half 8

/-- NOTE_PERIOD of the block at hand: the spec gives no values (R13). -/
opaque Config.openNotePeriod : Vector Half 128

/-- TIMER_CLOCK_HZ of the block at hand: the spec gives no value (R14). -/
opaque Config.openTimerClockHz : Nat

/-- The default POLY_RULES: index i holds the body of rule R119 + i (R11, R118). -/
def Config.defaultPolyRules : Vector PolyRule 8 :=
  #v[.tap4, .tap5CondATap4, .tap5CondBTap4, .div2, .tap5CondADiv2, .tap5CondBDiv2, .poly9, .poly5]

/-- Every parameter at the default the spec gives, and open where it gives none (R8 to R14). -/
def Config.standard : Config where
  patternTable := Config.openPatternTable
  notePeriod := Config.openNotePeriod
  prngASeed := 0x0001
  prngBSeed := 0x0001
  prngShared := false
  poly4Seed := 0b1111
  poly5Seed := 0b11111
  polyRules := Config.defaultPolyRules
  timerClockHz := Config.openTimerClockHz

/-- The conditions a configuration must meet before reset (R262, R8, R10). That PATTERN_TABLE and
NOTE_PERIOD are given in full holds by their type. -/
def Config.valid (c : Config) : Bool :=
  c.prngASeed != 0 && c.prngBSeed != 0 && c.poly4Seed != 0 && c.poly5Seed != 0

end Sys2Proof
end

