-- ==== Sys2Proof/Machine/State.lean ====
section
/-! DEFINITION. The state of the block: every register of 10_state.md, the configuration it was built
with, and the command port. Below it, one update for each group of registers that is written
together (R50). -/

namespace Sys2Proof.Machine

/-- Reasons the machine stops. The block itself has none (60_exceptions.md R240). -/
inductive Fault where
  /-- Raised when a waveform bit is taken (TCLK on a match, ATICK) while WSEL holds the reserved class
  0b11, which R130 calls unreachable. Safe: no run from reset reaches it, and where it could arise
  the model stops rather than choose a bit (log 6). -/
  | reservedClass
  deriving DecidableEq, Repr

/-- Reasons the model declines. -/
inductive Refusal where
  /-- A command without a meaning yet. Raised by no arm of this model. Safe. -/
  | notModelled (mnemonic : String)
  /-- Raised by `powerOn` for a configuration that breaks R262 (a zero seed). Safe: no machine is built
  from such a configuration. -/
  | badConfiguration
  deriving DecidableEq, Repr

/-- The registers of 10_state.md, one field each, and three fields of the model's own. -/
structure State where
  /-- the configuration parameters, which no command changes (R22; the model's own field, log 3) -/
  cfg : Config
  /-- WSEL (R24) -/
  wsel : BitVec 5
  /-- PATTERN (R25) -/
  pattern : BitVec 16
  /-- PRNG_A (R26) -/
  prngA : BitVec 16
  /-- PRNG_B (R27); neither read nor written when PRNG_SHARED is true (log 8) -/
  prngB : BitVec 16
  /-- R4 (R28) -/
  r4 : BitVec 4
  /-- R5 (R28) -/
  r5 : BitVec 5
  /-- PITCH (R29) -/
  pitch : BitVec 16
  /-- LFO_FREQ (R30) -/
  lfoFreq : BitVec 8
  /-- LFO_DEPTH (R31) -/
  lfoDepth : BitVec 8
  /-- LFO_WAVE (R32) -/
  lfoWave : BitVec 3
  /-- LFO_DELTA (R33) -/
  lfoDelta : BitVec 16
  /-- ENV_FREQ (R34) -/
  envFreq : BitVec 8
  /-- ENV_WIDTH (R34) -/
  envWidth : BitVec 8
  /-- LFO_PHASE (R35) -/
  lfoPhase : BitVec 8
  /-- LFO_VALUE (R36) -/
  lfoValue : BitVec 8
  /-- LFO_IND (R37) -/
  lfoInd : Bool
  /-- ENV_PHASE (R38) -/
  envPhase : BitVec 8
  /-- ENV_GATE (R39) -/
  envGate : Bool
  /-- PERIOD (R40) -/
  period : BitVec 16
  /-- COUNT (R41) -/
  count : BitVec 16
  /-- OUT (R42) -/
  out : Bool
  /-- NOTE_ON (R43) -/
  noteOn : Bool
  /-- EXT (R43) -/
  ext : Bool
  /-- LAST_NOTE (R43) -/
  lastNote : BitVec 7
  /-- RANGE_ERR (R45) -/
  rangeErr : Bool
  /-- CMD_ERR (R46) -/
  cmdErr : Bool
  /-- the words on the command port, oldest first, not yet performed (R60, R80; the model's own
  field, log 1) -/
  port : List Word
  /-- the response word of the last command performed (R82; the model's own field, log 2) -/
  resp : BitVec 16
  deriving DecidableEq, Repr

/-- The reset state of a block built with configuration `c` (70_reset_and_hazards.md R260). -/
def State.resetWith (c : Config) : State where
  cfg := c
  wsel := 0
  pattern := c.patternTable.get 0
  prngA := c.prngASeed
  prngB := c.prngBSeed
  r4 := c.poly4Seed
  r5 := c.poly5Seed
  pitch := 0
  lfoFreq := 0
  lfoDepth := 0
  lfoWave := 0
  lfoDelta := 0
  envFreq := 0
  envWidth := 0
  lfoPhase := 0
  lfoValue := 0
  lfoInd := false
  envPhase := 0
  envGate := true
  period := 200
  count := 0
  out := false
  noteOn := true
  ext := false
  lastNote := 0
  rangeErr := false
  cmdErr := false
  port := []
  resp := 0

/-- The machine right after reset, with the default configuration (R260; logs 1, 2, 4, 5). -/
def State.reset : State := State.resetWith Config.standard

namespace State

/-- Replace the words on the command port. -/
def setPort (ws : List Word) (s : State) : State := { s with port := ws }

/-- Set the response word. -/
def setResp (r : BitVec 16) (s : State) : State := { s with resp := r }

/-- Write WSEL. -/
def setWsel (w : BitVec 5) (s : State) : State := { s with wsel := w }

/-- Write PATTERN. -/
def setPattern (p : BitVec 16) (s : State) : State := { s with pattern := p }

/-- Write the field of PRNG_A. -/
def setPrngA (v : BitVec 16) (s : State) : State := { s with prngA := v }

/-- Write the field of PRNG_B. -/
def setPrngB (v : BitVec 16) (s : State) : State := { s with prngB := v }

/-- Write R4 and R5. -/
def setPoly (a : BitVec 4) (b : BitVec 5) (s : State) : State := { s with r4 := a, r5 := b }

/-- Write PITCH. -/
def setPitch (p : BitVec 16) (s : State) : State := { s with pitch := p }

/-- Write LFO_FREQ, LFO_DEPTH, LFO_WAVE and LFO_DELTA. -/
def setLfoParams (f d : BitVec 8) (w : BitVec 3) (dl : BitVec 16) (s : State) : State :=
  { s with lfoFreq := f, lfoDepth := d, lfoWave := w, lfoDelta := dl }

/-- Write LFO_PHASE, LFO_VALUE and LFO_IND. -/
def setLfoEngine (p v : BitVec 8) (i : Bool) (s : State) : State :=
  { s with lfoPhase := p, lfoValue := v, lfoInd := i }

/-- Write ENV_FREQ and ENV_WIDTH. -/
def setEnvParams (f w : BitVec 8) (s : State) : State := { s with envFreq := f, envWidth := w }

/-- Write ENV_PHASE and ENV_GATE. -/
def setEnvEngine (p : BitVec 8) (g : Bool) (s : State) : State :=
  { s with envPhase := p, envGate := g }

/-- Write PERIOD and COUNT. -/
def setClock (p c : BitVec 16) (s : State) : State := { s with period := p, count := c }

/-- Write OUT. -/
def setOut (b : Bool) (s : State) : State := { s with out := b }

/-- Write NOTE_ON, EXT and LAST_NOTE. -/
def setNote (on e : Bool) (n : BitVec 7) (s : State) : State :=
  { s with noteOn := on, ext := e, lastNote := n }

/-- Write RANGE_ERR and CMD_ERR. -/
def setErrors (r c : Bool) (s : State) : State := { s with rangeErr := r, cmdErr := c }

end State

end Sys2Proof.Machine
end

