-- ==== Sys2Proof/Machine/Ops.lean ====
section
/-! DEFINITION. The shared operations of the block, each written once from the pseudocode of the spec:
ending a command (R17, R82), the three bit sources (R110 to R130), the audio tick (R151), the LFO
(R170 to R182), the envelope (R190), the pitch resolver (R160) and power-on (R260, R262). -/

namespace Sys2Proof.Machine

/-- What a command answers. -/
abbrev Answer := Host.Outcome State Fault Refusal

/-! ## Ending a command -/

/-- The command completes with response `r` (`resp <- r`, R17, R82). -/
def respond (r : BitVec 16) (s : State) : State := s.setResp r

/-- `reject()`: no effect other than `CMD_ERR <- 1`, response 0 (R17, R46, R82, R242). The block has
no other exception mechanism: nothing is saved and control is not transferred (R240, R246). -/
def reject (s : State) : State := (s.setErrors s.rangeErr true).setResp 0

/-- A 1-bit value as a response or register word (`zext_16`, R16). -/
def bitWord (b : Bool) : BitVec 16 := (BitVec.ofBool b).setWidth 16

/-- `zext_16({hi, lo})` of two bits (R15, R16). -/
def twoBits (hi lo : Bool) : BitVec 16 := (BitVec.ofBool hi ++ BitVec.ofBool lo).setWidth 16

/-! ## Output signals (R44) -/

/-- `audio_out = OUT` (R44). -/
def audioOut (s : State) : Bool := s.out

/-- `lfo_ind = LFO_IND` (R44). -/
def lfoIndOut (s : State) : Bool := s.lfoInd

/-- `env_ind = ENV_GATE` (R44). -/
def envIndOut (s : State) : Bool := s.envGate

/-! ## The fixed bit-pattern source -/

/-- `{v[0], v[15:1]}`: rotate right by one place (R110). -/
def rotateRight1 (v : BitVec 16) : BitVec 16 := v.extractLsb' 0 1 ++ v.extractLsb' 1 15

/-- `pat_step()` (R110): the bit shifted out, and the state after. -/
def patStep (s : State) : Bool × State := (s.pattern.getLsbD 0, s.setPattern (rotateRight1 s.pattern))

/-! ## The pseudo-random source -/

/-- `prng_next(s) = (s >> 1) XOR (s[0] == 1 ? 0xB400 : 0x0000)` (R112). -/
def prngNext (v : BitVec 16) : BitVec 16 := (v >>> 1) ^^^ (if v.getLsbD 0 then 0xB400#16 else 0x0000#16)

/-- Step PRNG_A and return bit 0 of its new value (R113, R130). -/
def noiseStep (s : State) : Bool × State :=
  ((prngNext s.prngA).getLsbD 0, s.setPrngA (prngNext s.prngA))

/-- What a read of PRNG_B means: PRNG_A when PRNG_SHARED is true (R27, R9, R49). -/
def readPrngB (s : State) : BitVec 16 := if s.cfg.prngShared then s.prngA else s.prngB

/-- What a write of PRNG_B means: PRNG_A when PRNG_SHARED is true (R27, R9). -/
def writePrngB (v : BitVec 16) (s : State) : State :=
  if s.cfg.prngShared then s.setPrngA v else s.setPrngB v

/-! ## The poly bank -/

/-- `t4(r) = {r[2:0], r[3] XOR r[2]}` (R115). -/
def t4 (r : BitVec 4) : BitVec 4 := r.extractLsb' 0 3 ++ BitVec.ofBool (r.getLsbD 3 ^^ r.getLsbD 2)

/-- `t5(r) = {r[3:0], r[4] XOR r[2]}` (R116). -/
def t5 (r : BitVec 5) : BitVec 5 := r.extractLsb' 0 4 ++ BitVec.ofBool (r.getLsbD 4 ^^ r.getLsbD 2)

/-- `div2(r) = r XOR 0b1111` (R117). -/
def div2 (r : BitVec 4) : BitVec 4 := r ^^^ 0b1111#4

/-- `condA(r5) = (r5[3:0] == 0b1000)` (R117). -/
def condA (r : BitVec 5) : Bool := r.extractLsb' 0 4 == 0b1000#4

/-- `condB(r5) = (r5[4] == 1)` (R117). -/
def condB (r : BitVec 5) : Bool := r.getLsbD 4

/-- The joint shift of R125 on `(R4, R5)`: `fb = R4[3] XOR R5[4]` enters R5 and the bit that leaves R5
enters R4. -/
def poly9Next (a : BitVec 4) (b : BitVec 5) : BitVec 4 × BitVec 5 :=
  (a.extractLsb' 0 3 ++ BitVec.ofBool (b.getLsbD 4),
   b.extractLsb' 0 4 ++ BitVec.ofBool (a.getLsbD 3 ^^ b.getLsbD 4))

/-- The delay line of R126 on `(R4, R5)`: R5 steps by t5 and the bit that leaves it enters R4. -/
def poly5Next (a : BitVec 4) (b : BitVec 5) : BitVec 4 × BitVec 5 :=
  (a.extractLsb' 0 3 ++ BitVec.ofBool (b.getLsbD 4), t5 b)

/-- An update function given by its values, at the entry `{R4, R5}` (R11; log 9). -/
def givenNext (next : Vector PolyPair 512) (a : BitVec 4) (b : BitVec 5) : BitVec 4 × BitVec 5 :=
  let p : BitVec 9 := next.get (a ++ b : BitVec 9).toFin
  (p.extractLsb' 5 4, p.extractLsb' 0 5)

/-- One rule of the poly bank applied to `(R4, R5)` (R119 to R126, R11). Conditions are tested on R5
after it has advanced (R117). -/
def polyRuleNext (r : PolyRule) (a : BitVec 4) (b : BitVec 5) : BitVec 4 × BitVec 5 :=
  match r with
  | .tap4 => (t4 a, b)
  | .tap5CondATap4 => (if condA (t5 b) then t4 a else a, t5 b)
  | .tap5CondBTap4 => (if condB (t5 b) then t4 a else a, t5 b)
  | .div2 => (div2 a, b)
  | .tap5CondADiv2 => (if condA (t5 b) then div2 a else a, t5 b)
  | .tap5CondBDiv2 => (if condB (t5 b) then div2 a else a, t5 b)
  | .poly9 => poly9Next a b
  | .poly5 => poly5Next a b
  | .given next => givenNext next a b

/-- The rule POLY_RULES holds at index `i` (R11, R118). -/
def polyRuleAt (c : Config) (i : BitVec 3) : PolyRule := c.polyRules.get i.toFin

/-- `poly_step(i)` (R127): apply the rule of index i and return R4[3] after the update. -/
def polyStep (i : BitVec 3) (s : State) : Bool × State :=
  let n := polyRuleNext (polyRuleAt s.cfg i) s.r4 s.r5
  (n.1.getLsbD 3, s.setPoly n.1 n.2)

/-! ## Source selection and the audio tick -/

/-- The classes of WSEL (R24). -/
inductive SourceClass where
  /-- 0b00, the fixed bit pattern -/
  | pattern
  /-- 0b01, the noise generator -/
  | noise
  /-- 0b10, the poly bank -/
  | poly
  /-- 0b11, reserved, never stored (R217) -/
  | reserved
  deriving DecidableEq, Repr

/-- `CLASS = WSEL[4:3]` (R24). -/
def wselClass (w : BitVec 5) : SourceClass :=
  match (w.extractLsb' 3 2).toNat with
  | 0 => .pattern
  | 1 => .noise
  | 2 => .poly
  | _ => .reserved

/-- `IDX = WSEL[2:0]` (R24). -/
def wselIdx (w : BitVec 5) : BitVec 3 := w.extractLsb' 0 3

/-- `next_bit()` (R130): take one bit from the source that WSEL selects. Class 0b11 is unreachable
(log 6). -/
def nextBit (s : State) : Except Fault (Bool × State) :=
  match wselClass s.wsel with
  | .pattern => .ok (patStep s)
  | .noise => .ok (noiseStep s)
  | .poly => .ok (polyStep (wselIdx s.wsel) s)
  | .reserved => .error .reservedClass

/-- `OUT <- x AND ENV_GATE AND NOTE_ON` (R151). -/
def gateOut (x : Bool) (s : State) : State := s.setOut (x && s.envGate && s.noteOn)

/-- `audio_tick()` (R151): the raw waveform bit, and the state with OUT driven. -/
def audioTick (s : State) : Except Fault (Bool × State) :=
  match nextBit s with
  | .ok (x, t) => .ok (x, gateOut x t)
  | .error e => .error e

/-! ## The LFO -/

/-- `LFO_DELTA = (LFO_FREQ == 0) ? 0 : (LFO_DEPTH * 256) div LFO_FREQ` (R33, R220). -/
def deltaOf (freq depth : BitVec 8) : BitVec 16 :=
  if freq = 0 then 0 else BitVec.ofNat 16 (depth.toNat * 256 / freq.toNat)

/-- The LFO waveforms by LFO_WAVE (R173 to R180). -/
inductive Waveform where
  | triangle
  | sawUp
  | sawDown
  | square
  | halfSquare
  | halfSawUp
  | halfSawDown
  | random
  deriving DecidableEq, Repr

/-- The waveform LFO_WAVE selects (R32). -/
def waveformOf (w : BitVec 3) : Waveform :=
  match w.toNat with
  | 0 => .triangle
  | 1 => .sawUp
  | 2 => .sawDown
  | 3 => .square
  | 4 => .halfSquare
  | 5 => .halfSawUp
  | 6 => .halfSawDown
  | _ => .random

/-- The triangle (R173); `f`, `dep`, `del` and `p` are F, D, d and p of 42_lfo.md, and `min · dep` is
its `sat`. -/
def triangleLevel (f dep del p : Nat) : Nat :=
  if p < f / 2 then min (2 * p * del / 256) dep else min (2 * (f - p) * del / 256) dep

/-- Sawtooth-up (R174). -/
def sawUpLevel (dep del p : Nat) : Nat := min (p * del / 256) dep

/-- Sawtooth-down (R175). -/
def sawDownLevel (dep del p : Nat) : Nat := dep - min (p * del / 256) dep

/-- Square (R176). -/
def squareLevel (f dep p : Nat) : Nat := if p < f / 2 then 0 else dep

/-- Half-square, with `q = F >> 2` (R177). -/
def halfSquareLevel (f dep p : Nat) : Nat := if p < f / 4 then dep else 0

/-- Half-sawtooth-up (R178). -/
def halfSawUpLevel (f dep del p : Nat) : Nat :=
  if p < f / 2 then min (2 * p * del / 256) dep else 0

/-- Half-sawtooth-down (R179). -/
def halfSawDownLevel (f dep del p : Nat) : Nat :=
  if p < f / 2 then dep - min (2 * p * del / 256) dep else 0

/-- Write LFO_VALUE with an exact result, which fits in 8 bits (R181, R52). -/
def putLfoValue (v : Nat) (s : State) : State :=
  s.setLfoEngine s.lfoPhase (BitVec.ofNat 8 v) s.lfoInd

/-- The level of a random draw: `(D == 0) ? 0 : PRNG_B mod D` (R180). -/
def drawLevel (prng : BitVec 16) (dep : Nat) : Nat := if dep = 0 then 0 else prng.toNat % dep

/-- The random waveform (R180): a draw at phase 0, held at every other phase. -/
def lfoRandom (p : Nat) (s : State) : State :=
  if p = 0 then
    putLfoValue (drawLevel (prngNext (readPrngB s)) s.lfoDepth.toNat)
      (writePrngB (prngNext (readPrngB s)) s)
  else s

/-- `LFO_VALUE <- lfo_wave(LFO_WAVE, p)` (R170, R173 to R180), with the draw's step of PRNG_B. -/
def lfoWave (p : Nat) (s : State) : State :=
  let f := s.lfoFreq.toNat
  let dep := s.lfoDepth.toNat
  let del := s.lfoDelta.toNat
  match waveformOf s.lfoWave with
  | .triangle => putLfoValue (triangleLevel f dep del p) s
  | .sawUp => putLfoValue (sawUpLevel dep del p) s
  | .sawDown => putLfoValue (sawDownLevel dep del p) s
  | .square => putLfoValue (squareLevel f dep p) s
  | .halfSquare => putLfoValue (halfSquareLevel f dep p) s
  | .halfSawUp => putLfoValue (halfSawUpLevel f dep del p) s
  | .halfSawDown => putLfoValue (halfSawDownLevel f dep del p) s
  | .random => lfoRandom p s

/-- The phase a step uses: 0 where the counter is not below the frequency (R170, R172, R190, R192). -/
def phaseUsed (freq phase : BitVec 8) : Nat := if freq.toNat ≤ phase.toNat then 0 else phase.toNat

/-- The phase after a step at phase `p`: `(p + 1 >= F) ? 0 : p + 1` (R170, R190). -/
def phaseNext (freq : BitVec 8) (p : Nat) : BitVec 8 :=
  if freq.toNat ≤ p + 1 then 0 else BitVec.ofNat 8 (p + 1)

/-- Set LFO_IND and advance LFO_PHASE for a step at phase `p` (R170, R182). -/
def lfoAdvance (p : Nat) (s : State) : State :=
  s.setLfoEngine (phaseNext s.lfoFreq p) s.lfoValue (decide (p < s.lfoFreq.toNat / 2))

/-- `lfo_step()` (R170, R171). -/
def lfoStep (s : State) : State :=
  if s.lfoFreq = 0 then s.setLfoEngine 0 0 false
  else
    let p := phaseUsed s.lfoFreq s.lfoPhase
    lfoAdvance p (lfoWave p s)

/-! ## The envelope -/

/-- `env_step()` (R190, R191). -/
def envStep (s : State) : State :=
  if s.envFreq = 0 then s.setEnvEngine 0 true
  else
    let p := phaseUsed s.envFreq s.envPhase
    s.setEnvEngine (phaseNext s.envFreq p) (decide (p ≤ s.envWidth.toNat))

/-! ## The pitch resolver -/

/-- The exact period `v` of R160, which can be negative or above 0xFFFF. -/
def exactPeriod (s : State) : Int :=
  if s.ext then (s.pitch.toNat : Int) - 4 * (s.lfoValue.toNat : Int)
  else 200 + 4 * ((s.pitch.toNat : Int) - (s.lfoValue.toNat : Int))

/-- `v < 0 or v > 0xFFFF` (R160, R161). -/
def outOfRange (v : Int) : Bool := decide (v < 0) || decide (0xFFFF < v)

/-- `n <- v mod 65536` (R160, R161). -/
def wrapPeriod (v : Int) : BitVec 16 := BitVec.ofNat 16 (v % 65536).toNat

/-- Program a period: nothing where it is the current one, else PERIOD and, where COUNT is above it,
COUNT <- 0 (R160, R164, R165). -/
def programPeriod (n : BitVec 16) (s : State) : State :=
  if n = s.period then s
  else s.setClock n (if n.toNat < s.count.toNat then 0 else s.count)

/-- `resolve()` (R160, R161). -/
def resolvePitch (s : State) : State :=
  let v := exactPeriod s
  programPeriod (wrapPeriod v) (s.setErrors (s.rangeErr || outOfRange v) s.cmdErr)

/-! ## Power-on -/

/-- Power-on with configuration `c`: the reset state, or a refusal where R262 is broken (R261, R262). -/
def powerOn (c : Config) : Answer :=
  if c.valid then .next (State.resetWith c) else .refused .badConfiguration

end Sys2Proof.Machine
end

