-- ==== Sys2Proof/Machine/Clock.lean ====
section
/-! DEFINITION. The meanings of TCLK and ATICK (41_audio_sample_clock.md). -/

namespace Sys2Proof.Machine

/-- The part of TCLK where COUNT equals PERIOD: COUNT <- 0 and the audio tick (R150). -/
def tclkFire (s : State) : Answer :=
  match audioTick (s.setClock s.period 0) with
  | .ok (_, t) => .next (respond (twoBits t.out true) t)
  | .error e => .fault e

/-- The part of TCLK where COUNT differs from PERIOD (R150). -/
def tclkCount (s : State) : Answer :=
  .next (respond (twoBits s.out false) (s.setClock s.period (s.count + 1)))

/-- TCLK (R150). -/
def execTclk (s : State) : Answer := if s.count = s.period then tclkFire s else tclkCount s

/-- ATICK (R151). -/
def execAtick (s : State) : Answer :=
  match audioTick s with
  | .ok (x, t) => .next (respond (twoBits x t.out) t)
  | .error e => .fault e

end Sys2Proof.Machine
end

