-- ==== Sys2Proof/Machine/Control.lean ====
section
/-! DEFINITION. The meanings of LFOSTEP (42_lfo.md), ENVSTEP (43_envelope.md), RESOLVE and CTICK
(44_pitch_resolver.md). -/

namespace Sys2Proof.Machine

/-- LFOSTEP (R170). -/
def execLfostep (s : State) : Answer :=
  let t := lfoStep s
  .next (respond (t.lfoValue.setWidth 16) t)

/-- ENVSTEP (R190). -/
def execEnvstep (s : State) : Answer :=
  let t := envStep s
  .next (respond (bitWord t.envGate) t)

/-- RESOLVE (R160). -/
def execResolve (s : State) : Answer :=
  let t := resolvePitch s
  .next (respond t.period t)

/-- CTICK (R163): the LFO step, the envelope step, then the resolver. -/
def execCtick (s : State) : Answer :=
  let t := resolvePitch (envStep (lfoStep s))
  .next (respond t.period t)

end Sys2Proof.Machine
end

