-- ==== Sys2Proof/Machine/Flags.lean ====
section
/-! DEFINITION. The STATUS register: its bits (10_state.md R48) and its write (R219). -/

namespace Sys2Proof.Machine

/-- STATUS as read: CMD_ERR in bit 6, RANGE_ERR 5, OUT 4, LFO_IND 3, ENV_GATE 2, EXT 1, NOTE_ON 0, and
0 in bits 15:7 (R48). -/
def statusWord (s : State) : BitVec 16 :=
  0#9 ++ BitVec.ofBool s.cmdErr ++ BitVec.ofBool s.rangeErr ++ BitVec.ofBool s.out
    ++ BitVec.ofBool s.lfoInd ++ BitVec.ofBool s.envGate ++ BitVec.ofBool s.ext
    ++ BitVec.ofBool s.noteOn

/-- `status_write(D)` (R219): bit 5 clears RANGE_ERR, bit 6 clears CMD_ERR, the rest is ignored. -/
def statusWrite (d : BitVec 16) (s : State) : State :=
  s.setErrors (s.rangeErr && !d.getLsbD 5) (s.cmdErr && !d.getLsbD 6)

end Sys2Proof.Machine
end

