-- ==== Sys2Proof/Machine/Operands.lean ====
section
/-! DEFINITION. The register map, the one operand space of the block (10_state.md R47 to R49,
45_host_interface.md R234): addresses, reads and writes. -/

namespace Sys2Proof.Machine

/-- The 18 registers of the map (R47). -/
inductive Reg where
  | wsel
  | pattern
  | prngA
  | prngB
  | poly
  | pitch
  | lfoFreq
  | lfoDepth
  | lfoWave
  | lfoDelta
  | lfoState
  | envFreq
  | envWidth
  | envPhase
  | period
  | count
  | status
  | lastNote
  deriving DecidableEq, Repr

/-- The register at an address; 0x12 to 0xFF are reserved (R47, R63). -/
def regAt (a : BitVec 8) : Option Reg :=
  match a.toNat with
  | 0x00 => some .wsel
  | 0x01 => some .pattern
  | 0x02 => some .prngA
  | 0x03 => some .prngB
  | 0x04 => some .poly
  | 0x05 => some .pitch
  | 0x06 => some .lfoFreq
  | 0x07 => some .lfoDepth
  | 0x08 => some .lfoWave
  | 0x09 => some .lfoDelta
  | 0x0A => some .lfoState
  | 0x0B => some .envFreq
  | 0x0C => some .envWidth
  | 0x0D => some .envPhase
  | 0x0E => some .period
  | 0x0F => some .count
  | 0x10 => some .status
  | 0x11 => some .lastNote
  | _ => none

/-- The address of a register (R47). -/
def regAddr : Reg → BitVec 8
  | .wsel => 0x00
  | .pattern => 0x01
  | .prngA => 0x02
  | .prngB => 0x03
  | .poly => 0x04
  | .pitch => 0x05
  | .lfoFreq => 0x06
  | .lfoDepth => 0x07
  | .lfoWave => 0x08
  | .lfoDelta => 0x09
  | .lfoState => 0x0A
  | .envFreq => 0x0B
  | .envWidth => 0x0C
  | .envPhase => 0x0D
  | .period => 0x0E
  | .count => 0x0F
  | .status => 0x10
  | .lastNote => 0x11

/-- `read_value(A)`: the register as 16 bits, zero-extended from its width (R47 to R49, R221). -/
def readReg (r : Reg) (s : State) : BitVec 16 :=
  match r with
  | .wsel => s.wsel.setWidth 16
  | .pattern => s.pattern
  | .prngA => s.prngA
  | .prngB => readPrngB s
  | .poly => (s.r5 ++ s.r4).setWidth 16
  | .pitch => s.pitch
  | .lfoFreq => s.lfoFreq.setWidth 16
  | .lfoDepth => s.lfoDepth.setWidth 16
  | .lfoWave => s.lfoWave.setWidth 16
  | .lfoDelta => s.lfoDelta
  | .lfoState => s.lfoPhase ++ s.lfoValue
  | .envFreq => s.envFreq.setWidth 16
  | .envWidth => s.envWidth.setWidth 16
  | .envPhase => s.envPhase.setWidth 16
  | .period => s.period
  | .count => s.count
  | .status => statusWord s
  | .lastNote => s.lastNote.setWidth 16

/-- The pattern that selection `n` loads, PATTERN_TABLE[n[2:0]] (R217, R12). -/
def patternOf (c : Config) (n : BitVec 5) : BitVec 16 := c.patternTable.get (wselIdx n).toFin

/-- The stores of `wsel_write` for a selection `n` that differs from WSEL and is not reserved (R217). -/
def selectSource (n : BitVec 5) (s : State) : State :=
  if wselClass n = .pattern then (s.setWsel n).setPattern (patternOf s.cfg n) else s.setWsel n

/-- `wsel_write(D)` (R217); none is `reject()`. -/
def wselWrite (d : BitVec 16) (s : State) : Option State :=
  let n := d.extractLsb' 0 5
  if wselClass n = .reserved then none
  else if n = s.wsel then some s
  else some (selectSource n s)

/-- `pitch_write(D)` (R218): dropped while EXT = 1. -/
def pitchWrite (d : BitVec 16) (s : State) : State := if s.ext then s else s.setPitch d

/-- `WRREG LFO_FREQ` (R220). -/
def lfoFreqWrite (d : BitVec 16) (s : State) : State :=
  let f := d.extractLsb' 0 8
  s.setLfoParams f s.lfoDepth s.lfoWave (deltaOf f s.lfoDepth)

/-- `WRREG LFO_DEPTH` (R220). -/
def lfoDepthWrite (d : BitVec 16) (s : State) : State :=
  let dep := d.extractLsb' 0 8
  s.setLfoParams s.lfoFreq dep s.lfoWave (deltaOf s.lfoFreq dep)

/-- `WRREG LFO_WAVE` (R220). -/
def lfoWaveWrite (d : BitVec 16) (s : State) : State :=
  s.setLfoParams s.lfoFreq s.lfoDepth (d.extractLsb' 0 3) s.lfoDelta

/-- `WRREG ENV_FREQ` (R222). -/
def envFreqWrite (d : BitVec 16) (s : State) : State := s.setEnvParams (d.extractLsb' 0 8) s.envWidth

/-- `WRREG ENV_WIDTH` (R222). -/
def envWidthWrite (d : BitVec 16) (s : State) : State := s.setEnvParams s.envFreq (d.extractLsb' 0 8)

/-- The write of one register of the map (R216); none is `reject()`, which every RO register answers
(R47, R87). -/
def writeReg (r : Reg) (d : BitVec 16) (s : State) : Option State :=
  match r with
  | .wsel => wselWrite d s
  | .pitch => some (pitchWrite d s)
  | .lfoFreq => some (lfoFreqWrite d s)
  | .lfoDepth => some (lfoDepthWrite d s)
  | .lfoWave => some (lfoWaveWrite d s)
  | .envFreq => some (envFreqWrite d s)
  | .envWidth => some (envWidthWrite d s)
  | .status => some (statusWrite d s)
  | .pattern => none
  | .prngA => none
  | .prngB => none
  | .poly => none
  | .lfoDelta => none
  | .lfoState => none
  | .envPhase => none
  | .period => none
  | .count => none
  | .lastNote => none

/-- The write of an address: none where the address is reserved or the register refuses (R216, R87). -/
def writeAddr (a : BitVec 8) (d : BitVec 16) (s : State) : Option State :=
  match regAt a with
  | some r => writeReg r d s
  | none => none

/-- The read of an address: none where it is reserved (R221, R87). -/
def readAddr (a : BitVec 8) (s : State) : Option (BitVec 16) :=
  match regAt a with
  | some r => some (readReg r s)
  | none => none

/-- A note's pitch, NOTE_PERIOD[i] (R227, R13). -/
def notePitch (c : Config) (n : BitVec 7) : BitVec 16 := c.notePeriod.get n.toFin

end Sys2Proof.Machine
end

