-- ==== Sys2Proof/Machine/HostCommands.lean ====
section
/-! DEFINITION. The meanings of NOP, WRREG and RDREG (45_host_interface.md). -/

namespace Sys2Proof.Machine

/-- NOP (R215). -/
def execNop (s : State) : Answer := .next (respond 0 s)

/-- WRREG A, D (R216). -/
def execWrreg (a : BitVec 8) (d : BitVec 16) (s : State) : Answer :=
  match writeAddr a d s with
  | some t => .next (respond 0 t)
  | none => .next (reject s)

/-- RDREG A (R221). -/
def execRdreg (a : BitVec 8) (s : State) : Answer :=
  match readAddr a s with
  | some v => .next (respond v s)
  | none => .next (reject s)

end Sys2Proof.Machine
end

