-- ==== Sys2Proof/Machine/Notes.lean ====
section
/-! DEFINITION. The meanings of NOTEON, NOTEOFF and STOP (45_host_interface.md R225 to R231). -/

namespace Sys2Proof.Machine

/-- NOTEON NOTE7 (R229, R227). -/
def execNoteon (n : BitVec 7) (s : State) : Answer :=
  .next (respond 0 ((s.setNote true true n).setPitch (notePitch s.cfg n)))

/-- NOTEOFF NOTE7 (R230). -/
def execNoteoff (n : BitVec 7) (s : State) : Answer :=
  .next (respond 0 (s.setNote (s.noteOn && !(n == s.lastNote)) true s.lastNote))

/-- STOP (R231). -/
def execStop (s : State) : Answer := .next (respond 0 (s.setNote false true s.lastNote))

end Sys2Proof.Machine
end

