-- ==== Sys2Proof/Machine/Sources.lean ====
section
/-! DEFINITION. The meanings of POLY, NOISE and PATSTEP (40_waveform_generator.md). -/

namespace Sys2Proof.Machine

/-- POLY IDX3 (R118). -/
def execPoly (i : BitVec 3) (s : State) : Answer :=
  let n := polyStep i s
  .next (respond (bitWord n.1) n.2)

/-- NOISE (R113). -/
def execNoise (s : State) : Answer :=
  let n := noiseStep s
  .next (respond (bitWord n.1) n.2)

/-- PATSTEP (R111). -/
def execPatstep (s : State) : Answer :=
  let n := patStep s
  .next (respond (bitWord n.1) n.2)

end Sys2Proof.Machine
end

