-- ==== Sys2Proof/Syntax.lean ====
section
/-! DEFINITION. The commands of the block: one constructor for each row of spec/opcode_table.json
(30_encoding.md R83). Operands have exactly the width of their field, so no command of this type
can hold an operand that its word cannot (R81). -/

namespace Sys2Proof

/-- A defined command (30_encoding.md R83). -/
inductive Instr where
  /-- `NOP` (R215). -/
  | nop
  /-- `WRREG A, D` (R216). -/
  | wrreg (a : BitVec 8) (d : BitVec 16)
  /-- `RDREG A` (R221). -/
  | rdreg (a : BitVec 8)
  /-- `POLY IDX3` (R118). -/
  | poly (idx : BitVec 3)
  /-- `NOISE` (R113). -/
  | noise
  /-- `PATSTEP` (R111). -/
  | patstep
  /-- `TCLK` (R150). -/
  | tclk
  /-- `ATICK` (R151). -/
  | atick
  /-- `LFOSTEP` (R170). -/
  | lfostep
  /-- `ENVSTEP` (R190). -/
  | envstep
  /-- `RESOLVE` (R160). -/
  | resolve
  /-- `CTICK` (R163). -/
  | ctick
  /-- `NOTEON NOTE7` (R229). -/
  | noteon (note : BitVec 7)
  /-- `NOTEOFF NOTE7` (R230). -/
  | noteoff (note : BitVec 7)
  /-- `STOP` (R231). -/
  | stop
  deriving DecidableEq, Repr

end Sys2Proof
end

