-- ==== Sys2Proof/Machine/Dispatch.lean ====
section
/-! DEFINITION. One arm for each command: a direct call of its meaning. -/

namespace Sys2Proof.Machine

def exec (i : Instr) (s : State) : Host.Outcome State Fault Refusal :=
  match i with
  | .nop => Sys2Proof.Machine.execNop s
  | .wrreg a d => Sys2Proof.Machine.execWrreg a d s
  | .rdreg a => Sys2Proof.Machine.execRdreg a s
  | .poly idx => Sys2Proof.Machine.execPoly idx s
  | .noise => Sys2Proof.Machine.execNoise s
  | .patstep => Sys2Proof.Machine.execPatstep s
  | .tclk => Sys2Proof.Machine.execTclk s
  | .atick => Sys2Proof.Machine.execAtick s
  | .lfostep => Sys2Proof.Machine.execLfostep s
  | .envstep => Sys2Proof.Machine.execEnvstep s
  | .resolve => Sys2Proof.Machine.execResolve s
  | .ctick => Sys2Proof.Machine.execCtick s
  | .noteon note => Sys2Proof.Machine.execNoteon note s
  | .noteoff note => Sys2Proof.Machine.execNoteoff note s
  | .stop => Sys2Proof.Machine.execStop s

end Sys2Proof.Machine
end

