-- ==== Sys2Proof/Decode.lean ====
section
/-! DEFINITION. Command words: the decoder, total on every 32-bit word and refusing by name
(30_encoding.md R80 to R88), and after it the encoder, written from the same tables. -/

namespace Sys2Proof

/-- Why a word is ILLEGAL: the three cases of R86. All three have the same effect, `reject()`; where
two hold at once the first in this order is named (DESIGN CHOICE of the name alone, log 12). -/
inductive Illegal where
  /-- "its OP is none of the 15 values of rule R83" -/
  | undefinedOp
  /-- "it has a nonzero A field and its OP is not WRREG or RDREG" -/
  | nonzeroA
  /-- "it has a nonzero D bit that rule R83 marks 0" -/
  | nonzeroD
  deriving DecidableEq, Repr

/-- `OP = word[31:24]` (R80). -/
def opField (w : Word) : BitVec 8 := w.extractLsb' 24 8

/-- `A = word[23:16]` (R80, R81). -/
def addrField (w : Word) : BitVec 8 := w.extractLsb' 16 8

/-- `D = word[15:0]` (R80, R81). -/
def dataField (w : Word) : BitVec 16 := w.extractLsb' 0 16

/-- A command without operands: A and D must be 0 (R83, R86). -/
def decodeBare (i : Instr) (a : BitVec 8) (d : BitVec 16) : Except Illegal Instr :=
  if a ≠ 0 then .error .nonzeroA else if d ≠ 0 then .error .nonzeroD else .ok i

/-- A command with an operand in the low `n` bits of D: A and the other bits of D must be 0
(R81, R83, R86). -/
def decodeLow (n : Nat) (k : BitVec n → Instr) (a : BitVec 8) (d : BitVec 16) : Except Illegal Instr :=
  if a ≠ 0 then .error .nonzeroA else if d >>> n ≠ 0 then .error .nonzeroD
  else .ok (k (d.extractLsb' 0 n))

/-- RDREG: A is the address, D must be 0 (R83, R221). -/
def decodeRdreg (a : BitVec 8) (d : BitVec 16) : Except Illegal Instr :=
  if d ≠ 0 then .error .nonzeroD else .ok (.rdreg a)

/-- The opcode map (R83). -/
def decodeFields (op a : BitVec 8) (d : BitVec 16) : Except Illegal Instr :=
  match op.toNat with
  | 0x00 => decodeBare .nop a d
  | 0x01 => .ok (.wrreg a d)
  | 0x02 => decodeRdreg a d
  | 0x10 => decodeLow 3 .poly a d
  | 0x11 => decodeBare .noise a d
  | 0x12 => decodeBare .patstep a d
  | 0x20 => decodeBare .tclk a d
  | 0x21 => decodeBare .atick a d
  | 0x30 => decodeBare .lfostep a d
  | 0x31 => decodeBare .envstep a d
  | 0x32 => decodeBare .resolve a d
  | 0x33 => decodeBare .ctick a d
  | 0x40 => decodeLow 7 .noteon a d
  | 0x41 => decodeLow 7 .noteoff a d
  | 0x42 => decodeBare .stop a d
  | _ => .error .undefinedOp

/-- Decode one command word (R83, R86). -/
def decode (w : Word) : Except Illegal Instr :=
  decodeFields (opField w) (addrField w) (dataField w)

/-- The command word a row of the opcode table with `nbits` bits stands for: its low `nbits` bits,
every bit above them 0. The word is the only unit; it has no byte order (20_memory.md R65). -/
def tableWord (nbits w : Nat) : Word := BitVec.ofNat 32 (w % 2 ^ nbits)

/-- The instruction the decoder reads from the word of an opcode-table row. -/
def decodeTableWord (nbits w : Nat) : Option Instr := (decode (tableWord nbits w)).toOption

/-- A word from its three fields, `{OP, A, D}` (R80). -/
def cmdWord (op a : BitVec 8) (d : BitVec 16) : Word := op ++ a ++ d

/-- The opcode of a command (R83). -/
def Instr.opcode : Instr → BitVec 8
  | .nop => 0x00
  | .wrreg _ _ => 0x01
  | .rdreg _ => 0x02
  | .poly _ => 0x10
  | .noise => 0x11
  | .patstep => 0x12
  | .tclk => 0x20
  | .atick => 0x21
  | .lfostep => 0x30
  | .envstep => 0x31
  | .resolve => 0x32
  | .ctick => 0x33
  | .noteon _ => 0x40
  | .noteoff _ => 0x41
  | .stop => 0x42

/-- The A field of a command: 0 unless it names a register (R80, R83). -/
def Instr.addr : Instr → BitVec 8
  | .wrreg a _ => a
  | .rdreg a => a
  | .poly _ | .noteon _ | .noteoff _ => 0
  | .nop | .noise | .patstep | .tclk | .atick | .lfostep | .envstep | .resolve | .ctick | .stop => 0

/-- The D field of a command (R83). -/
def Instr.data : Instr → BitVec 16
  | .wrreg _ d => d
  | .poly i => i.setWidth 16
  | .noteon n => n.setWidth 16
  | .noteoff n => n.setWidth 16
  | .rdreg _ => 0
  | .nop | .noise | .patstep | .tclk | .atick | .lfostep | .envstep | .resolve | .ctick | .stop => 0

/-- Encode a command as its one word (R83, R85). -/
def encode (i : Instr) : Word := cmdWord i.opcode i.addr i.data

/-- A row of the match and mask table (R84). -/
structure MatchRow where
  /-- the bits a word of this row has -/
  pattern : Word
  /-- which bits the row fixes -/
  mask : Word
  deriving DecidableEq, Repr

/-- The row of R84 a command belongs to. -/
def Instr.row : Instr → MatchRow
  | .nop => ⟨0x00000000, 0xFFFFFFFF⟩
  | .wrreg _ _ => ⟨0x01000000, 0xFF000000⟩
  | .rdreg _ => ⟨0x02000000, 0xFF00FFFF⟩
  | .poly _ => ⟨0x10000000, 0xFFFFFFF8⟩
  | .noise => ⟨0x11000000, 0xFFFFFFFF⟩
  | .patstep => ⟨0x12000000, 0xFFFFFFFF⟩
  | .tclk => ⟨0x20000000, 0xFFFFFFFF⟩
  | .atick => ⟨0x21000000, 0xFFFFFFFF⟩
  | .lfostep => ⟨0x30000000, 0xFFFFFFFF⟩
  | .envstep => ⟨0x31000000, 0xFFFFFFFF⟩
  | .resolve => ⟨0x32000000, 0xFFFFFFFF⟩
  | .ctick => ⟨0x33000000, 0xFFFFFFFF⟩
  | .noteon _ => ⟨0x40000000, 0xFFFFFF80⟩
  | .noteoff _ => ⟨0x41000000, 0xFFFFFF80⟩
  | .stop => ⟨0x42000000, 0xFFFFFFFF⟩

/-- A word selects a row "when `(w AND mask) == match`" (R84). -/
def MatchRow.selects (r : MatchRow) (w : Word) : Bool := (w &&& r.mask) == r.pattern

end Sys2Proof
end

