-- ==== Sys2Proof/Machine/Port.lean ====
section
/-! DEFINITION. The command port (20_memory.md R60 to R62): the next word, what the environment may put
on it, and the order of inputs that arrive in one hardware clock cycle. -/

namespace Sys2Proof.Machine

/-- Take the oldest word from the port, with the state that no longer holds it; none where no command
is presented (R60; log 1). -/
def takeWord (s : State) : Option (Word × State) :=
  match s.port with
  | [] => none
  | w :: ws => some (w, s.setPort ws)

/-- The environment presents further words, after those that wait (R60, R61). -/
def present (ws : List Word) (s : State) : State := s.setPort (s.port ++ ws)

/-- Place a word so that it is the next command performed (log 1). -/
def presentFirst (w : Word) (s : State) : State := s.setPort (w :: s.port)

/-- The block while no command is presented: it keeps all state (R252, R232; log 1). -/
def idle (s : State) : State := s

/-- A register command of the host (R234). -/
inductive RegAccess where
  | write (a : BitVec 8) (d : BitVec 16)
  | read (a : BitVec 8)
  deriving DecidableEq, Repr

/-- The events of the Serial Note Event Receiver's interface (R225). -/
inductive NoteEvent where
  | noteOn (pitchIndex : BitVec 7)
  | noteOff (pitchIndex : BitVec 7)
  | stop
  deriving DecidableEq, Repr

/-- The inputs that arrive in one hardware clock cycle (R62). -/
structure CycleInputs where
  host : Option RegAccess
  note : Option NoteEvent
  ctick : Bool
  tclk : Bool
  deriving DecidableEq, Repr

/-- The command of a register access (R216, R221). -/
def regAccessCmd : RegAccess → Instr
  | .write a d => .wrreg a d
  | .read a => .rdreg a

/-- The command of a note event (R229 to R231). -/
def noteEventCmd : NoteEvent → Instr
  | .noteOn n => .noteon n
  | .noteOff n => .noteoff n
  | .stop => .stop

/-- The commands of one cycle's inputs, "performed in this order: host WRREG or RDREG, then the note
event, then CTICK, then TCLK" (R62). -/
def cycleCommands (c : CycleInputs) : List Instr :=
  (c.host.map regAccessCmd).toList ++ (c.note.map noteEventCmd).toList
    ++ (if c.ctick then [.ctick] else []) ++ (if c.tclk then [.tclk] else [])

/-- Present one cycle's inputs on the port (R62). -/
def presentCycle (c : CycleInputs) (s : State) : State := present ((cycleCommands c).map encode) s

end Sys2Proof.Machine
end

