-- ==== Sys2Proof/Machine/Step.lean ====
section
/-! DEFINITION. One step of the block: perform the next command of the port (20_memory.md R60). -/

namespace Sys2Proof.Machine

/-- Take the next word and perform it: the command it decodes to, or `reject()` where it is ILLEGAL
(R86). Where no command is presented the block keeps its state (log 1). -/
def step (s : State) : Host.Outcome State Fault Refusal :=
  match takeWord s with
  | none => .next (idle s)
  | some (w, t) =>
    match decode w with
    | .ok i => exec i t
    | .error _ => .next (reject t)

/-- Put the word of an opcode-table row where the next step takes its command from: at the head of the
port (log 1). -/
def State.withFetchWord (s : State) (nbits w : Nat) : State := presentFirst (tableWord nbits w) s

end Sys2Proof.Machine
end

