-- ==== Sys2Proof/WellFormed.lean ====
section
/-! DEFINITION. Well-formed commands. A command as an issuer writes it (30_encoding.md R89) has
numbers for operands; the check refuses a number that does not fit its field, and only a command
that passes it becomes an `Instr`, whose operands cannot be out of range. -/

namespace Sys2Proof

/-- A command with its operands as plain numbers, as R89 writes them. -/
inductive SourceCmd where
  | nop
  | wrreg (addr data : Nat)
  | rdreg (addr : Nat)
  | poly (idx : Nat)
  | noise
  | patstep
  | tclk
  | atick
  | lfostep
  | envstep
  | resolve
  | ctick
  | noteon (note : Nat)
  | noteoff (note : Nat)
  | stop
  deriving DecidableEq, Repr

/-- "an address above 0xFF" is refused (R89). -/
def addrFits (a : Nat) : Bool := decide (a ≤ 0xFF)

/-- "data above 0xFFFF" is refused (R89). -/
def dataFits (d : Nat) : Bool := decide (d ≤ 0xFFFF)

/-- "an index above 7" is refused (R89). -/
def idxFits (i : Nat) : Bool := decide (i ≤ 7)

/-- "a note above 127" is refused (R89). -/
def noteFits (n : Nat) : Bool := decide (n ≤ 127)

/-- Every operand fits its field (R81, R89). -/
def SourceCmd.wellFormed : SourceCmd → Bool
  | .wrreg a d => addrFits a && dataFits d
  | .rdreg a => addrFits a
  | .poly i => idxFits i
  | .noteon n => noteFits n
  | .noteoff n => noteFits n
  | .nop => true
  | .noise => true
  | .patstep => true
  | .tclk => true
  | .atick => true
  | .lfostep => true
  | .envstep => true
  | .resolve => true
  | .ctick => true
  | .stop => true

/-- The command of a source command whose operands fit; the operands are taken modulo the width of
their field, so only `SourceCmd.toInstr` (which checks first) may be used on unchecked input. -/
def SourceCmd.narrow : SourceCmd → Instr
  | .nop => .nop
  | .wrreg a d => .wrreg (BitVec.ofNat 8 a) (BitVec.ofNat 16 d)
  | .rdreg a => .rdreg (BitVec.ofNat 8 a)
  | .poly i => .poly (BitVec.ofNat 3 i)
  | .noise => .noise
  | .patstep => .patstep
  | .tclk => .tclk
  | .atick => .atick
  | .lfostep => .lfostep
  | .envstep => .envstep
  | .resolve => .resolve
  | .ctick => .ctick
  | .noteon n => .noteon (BitVec.ofNat 7 n)
  | .noteoff n => .noteoff (BitVec.ofNat 7 n)
  | .stop => .stop

/-- The command a source command stands for, or nothing where an operand does not fit (R89). -/
def SourceCmd.toInstr (c : SourceCmd) : Option Instr :=
  if c.wellFormed then some c.narrow else none

/-- The source form of a command: its operands as numbers. -/
def Instr.toSource : Instr → SourceCmd
  | .nop => .nop
  | .wrreg a d => .wrreg a.toNat d.toNat
  | .rdreg a => .rdreg a.toNat
  | .poly i => .poly i.toNat
  | .noise => .noise
  | .patstep => .patstep
  | .tclk => .tclk
  | .atick => .atick
  | .lfostep => .lfostep
  | .envstep => .envstep
  | .resolve => .resolve
  | .ctick => .ctick
  | .noteon n => .noteon n.toNat
  | .noteoff n => .noteoff n.toNat
  | .stop => .stop

end Sys2Proof
end

