-- ==== Sys2Proof/Machine/Assembler.lean ====
section
/-! DEFINITION. The assembly syntax (30_encoding.md R89) and the pseudo-instructions (R90). A line of
text becomes the commands it stands for, or nothing where R89 refuses it. What R89 does not say of
spacing and of empty lines is fixed in log 13. -/

namespace Sys2Proof.Machine

/-- One line of assembly text. -/
abbrev Text := List Char

/-! ## Pseudo-instructions -/

/-- The pseudo-instructions (R90). -/
inductive Pseudo where
  /-- `SETWAVE PAT, i` -/
  | setwavePat (i : Nat)
  /-- `SETWAVE NOISE` -/
  | setwaveNoise
  /-- `SETWAVE POLY, i` -/
  | setwavePoly (i : Nat)
  /-- `CLRERR` -/
  | clrerr
  /-- `SETLFO f, d, w` -/
  | setlfo (f d w : Nat)
  /-- `SETENV f, w` -/
  | setenv (f w : Nat)
  /-- `SETPITCH p` -/
  | setpitch (p : Nat)
  deriving DecidableEq, Repr

/-- A WRREG of a named register. -/
def writeTo (r : Reg) (d : Nat) : SourceCmd := .wrreg (regAddr r).toNat d

/-- The expansion of a pseudo-instruction (R90); an index above 7 is refused. -/
def expandPseudo : Pseudo → Option (List SourceCmd)
  | .setwavePat i => if idxFits i then some [writeTo .wsel i] else none
  | .setwaveNoise => some [writeTo .wsel 0x08]
  | .setwavePoly i => if idxFits i then some [writeTo .wsel (0x10 + i)] else none
  | .clrerr => some [writeTo .status 0x0060]
  | .setlfo f d w => some [writeTo .lfoFreq f, writeTo .lfoDepth d, writeTo .lfoWave w]
  | .setenv f w => some [writeTo .envFreq f, writeTo .envWidth w]
  | .setpitch p => some [writeTo .pitch p]

/-! ## Words of a line -/

/-- The line without its comment: "A `;` starts a comment" (R89). -/
def stripComment (l : Text) : Text := l.takeWhile (· != ';')

/-- A space or a tab (log 13). -/
def isBlank (c : Char) : Bool := c == ' ' || c == '\t'

/-- Without blanks at both ends. -/
def trimBlanks (l : Text) : Text := ((l.dropWhile isBlank).reverse.dropWhile isBlank).reverse

/-- The parts between commas ("the operands separated by commas", R89). -/
def splitCommas : Text → List Text
  | [] => [[]]
  | c :: cs =>
    if c == ',' then [] :: splitCommas cs
    else match splitCommas cs with
      | [] => [[c]]
      | h :: t => (c :: h) :: t

/-- The operands of the rest of a line, after its mnemonic. -/
def operandTexts (l : Text) : List Text :=
  match trimBlanks l with
  | [] => []
  | c :: cs => (splitCommas (c :: cs)).map trimBlanks

/-- The value of a digit in a base up to 16. -/
def digitValue (base : Nat) (c : Char) : Option Nat :=
  let v :=
    if 48 ≤ c.toNat ∧ c.toNat ≤ 57 then c.toNat - 48
    else if 65 ≤ c.toNat ∧ c.toNat ≤ 70 then c.toNat - 55
    else if 97 ≤ c.toNat ∧ c.toNat ≤ 102 then c.toNat - 87
    else base
  if v < base then some v else none

/-- The number a text of digits spells, continuing from `acc`. -/
def digitsValue (base : Nat) : Text → Nat → Option Nat
  | [], acc => some acc
  | c :: cs, acc =>
    match digitValue base c with
    | some v => digitsValue base cs (acc * base + v)
    | none => none

/-- "a decimal or `0x` hexadecimal number" (R89). -/
def numberOf : Text → Option Nat
  | [] => none
  | '0' :: 'x' :: [] => none
  | '0' :: 'x' :: h :: hs => digitsValue 16 (h :: hs) 0
  | d :: ds => digitsValue 10 (d :: ds) 0

/-- The name of a register in assembly text (R47, R89). -/
def regName : Reg → Text
  | .wsel => "WSEL".toList
  | .pattern => "PATTERN".toList
  | .prngA => "PRNG_A".toList
  | .prngB => "PRNG_B".toList
  | .poly => "POLY".toList
  | .pitch => "PITCH".toList
  | .lfoFreq => "LFO_FREQ".toList
  | .lfoDepth => "LFO_DEPTH".toList
  | .lfoWave => "LFO_WAVE".toList
  | .lfoDelta => "LFO_DELTA".toList
  | .lfoState => "LFO_STATE".toList
  | .envFreq => "ENV_FREQ".toList
  | .envWidth => "ENV_WIDTH".toList
  | .envPhase => "ENV_PHASE".toList
  | .period => "PERIOD".toList
  | .count => "COUNT".toList
  | .status => "STATUS".toList
  | .lastNote => "LAST_NOTE".toList

/-- Every register of the map (R47). -/
def allRegs : List Reg :=
  [.wsel, .pattern, .prngA, .prngB, .poly, .pitch, .lfoFreq, .lfoDepth, .lfoWave, .lfoDelta,
   .lfoState, .envFreq, .envWidth, .envPhase, .period, .count, .status, .lastNote]

/-- "a register address by its name from rule R47, or as a number" (R89). -/
def addressOf (t : Text) : Option Nat :=
  match allRegs.find? (fun r => regName r == t) with
  | some r => some (regAddr r).toNat
  | none => numberOf t

/-! ## Lines -/

/-- A command or pseudo-instruction with no operands. -/
def parse0 (m : Text) : Option (List SourceCmd) :=
  if m == "NOP".toList then some [.nop]
  else if m == "PATSTEP".toList then some [.patstep]
  else if m == "NOISE".toList then some [.noise]
  else if m == "TCLK".toList then some [.tclk]
  else if m == "ATICK".toList then some [.atick]
  else if m == "LFOSTEP".toList then some [.lfostep]
  else if m == "ENVSTEP".toList then some [.envstep]
  else if m == "RESOLVE".toList then some [.resolve]
  else if m == "CTICK".toList then some [.ctick]
  else if m == "STOP".toList then some [.stop]
  else if m == "CLRERR".toList then expandPseudo .clrerr
  else none

/-- A command or pseudo-instruction with one operand. -/
def parse1 (m x : Text) : Option (List SourceCmd) :=
  if m == "RDREG".toList then (addressOf x).map fun a => [.rdreg a]
  else if m == "POLY".toList then (numberOf x).map fun i => [.poly i]
  else if m == "NOTEON".toList then (numberOf x).map fun n => [.noteon n]
  else if m == "NOTEOFF".toList then (numberOf x).map fun n => [.noteoff n]
  else if m == "SETPITCH".toList then
    (numberOf x).bind fun p => expandPseudo (.setpitch p)
  else if m == "SETWAVE".toList && x == "NOISE".toList then
    expandPseudo .setwaveNoise
  else none

/-- A command or pseudo-instruction with two operands. -/
def parse2 (m x y : Text) : Option (List SourceCmd) :=
  if m == "WRREG".toList then
    (addressOf x).bind fun a => (numberOf y).map fun d => [.wrreg a d]
  else if m == "SETENV".toList then
    (numberOf x).bind fun f => (numberOf y).bind fun w => expandPseudo (.setenv f w)
  else if m == "SETWAVE".toList && x == "PAT".toList then
    (numberOf y).bind fun i => expandPseudo (.setwavePat i)
  else if m == "SETWAVE".toList && x == "POLY".toList then
    (numberOf y).bind fun i => expandPseudo (.setwavePoly i)
  else none

/-- A pseudo-instruction with three operands. -/
def parse3 (m x y z : Text) : Option (List SourceCmd) :=
  if m == "SETLFO".toList then
    (numberOf x).bind fun f => (numberOf y).bind fun d => (numberOf z).bind fun w =>
      expandPseudo (.setlfo f d w)
  else none

/-- A mnemonic with its operands. -/
def parseCommand (m : Text) : List Text → Option (List SourceCmd)
  | [] => parse0 m
  | [x] => parse1 m x
  | [x, y] => parse2 m x y
  | [x, y, z] => parse3 m x y z
  | _ => none

/-- One line: "one command per line" (R89); a line with nothing but a comment holds none (log 13). -/
def parseLine (l : Text) : Option (List SourceCmd) :=
  match trimBlanks (stripComment l) with
  | [] => some []
  | c :: cs =>
    parseCommand ((c :: cs).takeWhile fun x => !isBlank x)
      (operandTexts ((c :: cs).dropWhile fun x => !isBlank x))

/-- Every command of a list, or nothing where an operand does not fit its field (R89). -/
def narrowAll : List SourceCmd → Option (List Instr)
  | [] => some []
  | c :: cs =>
    match c.toInstr, narrowAll cs with
    | some i, some is => some (i :: is)
    | _, _ => none

/-- The commands a line of assembly text stands for (R89, R90). -/
def assembleLine (l : Text) : Option (List Instr) := (parseLine l).bind narrowAll

/-- The commands of a text, line by line. -/
def assemble : List Text → Option (List Instr)
  | [] => some []
  | l :: ls =>
    match assembleLine l, assemble ls with
    | some is, some js => some (is ++ js)
    | _, _ => none

end Sys2Proof.Machine
end

