-- ==== Sys2Proof/Safety.lean ====
section
/-! DEFINITION. What claims about runs are stated in: the invariant of the block, the states its runs
reach, and the absence of an error flag. -/

namespace Sys2Proof.Machine

/-- What holds of the block from reset on: WSEL never holds the reserved class (R24, R217), COUNT never
passes PERIOD (R41, R155), LFO_DELTA is the function of its two parameters (R33), and the generators
never become 0 (R114). -/
structure StateInv (s : State) : Prop where
  /-- WSEL does not hold class 0b11 (R24, R217) -/
  wselDefined : wselClass s.wsel ≠ .reserved
  /-- `COUNT <= PERIOD` (R155) -/
  countBounded : s.count.toNat ≤ s.period.toNat
  /-- LFO_DELTA agrees with LFO_FREQ and LFO_DEPTH (R33) -/
  deltaCurrent : s.lfoDelta = deltaOf s.lfoFreq s.lfoDepth
  /-- PRNG_A is nonzero (R114) -/
  prngANonzero : s.prngA ≠ 0
  /-- PRNG_B is nonzero (R114) -/
  prngBNonzero : s.prngB ≠ 0

/-- `n` steps from `s`, stopping at a fault or refusal. -/
def runSteps : Nat → State → Answer
  | 0, s => .next s
  | n + 1, s =>
    match step s with
    | .next t => runSteps n t
    | .fault e => .fault e
    | .refused r => .refused r

/-- `t` is reached from `s` by steps, while the environment presents any words between them (R61). -/
inductive Reaches (s : State) : State → Prop where
  /-- before any step -/
  | start : Reaches s s
  /-- the environment presents further words (R61) -/
  | present (ws : List Word) {t : State} : Reaches s t → Reaches s (present ws t)
  /-- the block performs one step -/
  | step {t u : State} : Reaches s t → step t = .next u → Reaches s u

/-- No error flag is set, the premise R243 asks of claims about sequences. -/
def noErrors (s : State) : Bool := !s.rangeErr && !s.cmdErr

end Sys2Proof.Machine
end

