-- ==== Sys2Proof/Certificates/Slice0/Obligations.lean ====
section
/-! DEFINITION. The statements for the provers. Each names the rules of spec/ it formalises. A next state
is written as an update of the state before, so that it also says everything that stays the same. -/

section

open Sys2Proof Sys2Proof.Machine

/-! ## Command words -/

/-- R83, R85: decoding the word of a command gives the command back, every operand at every value. -/
def Obligations.DecodeOfEncodeIsTheCommand : Prop := ∀ i : Instr, decode (encode i) = .ok i

/-- R83, R86: a word that decodes is the one word of its command. -/
def Obligations.EncodeOfDecodeIsTheWord : Prop :=
  ∀ (w : Word) (i : Instr), decode w = .ok i → encode i = w

/-- R84: the match and mask table, and that its rows do not overlap. -/
def Obligations.DecodeFollowsTheMatchAndMaskTable : Prop :=
  (∀ w : Word,
    (decode w = .ok .nop ↔ w &&& 0xFFFFFFFF#32 = 0x00000000#32) ∧
    ((∃ a d, decode w = .ok (.wrreg a d)) ↔ w &&& 0xFF000000#32 = 0x01000000#32) ∧
    ((∃ a, decode w = .ok (.rdreg a)) ↔ w &&& 0xFF00FFFF#32 = 0x02000000#32) ∧
    ((∃ i, decode w = .ok (.poly i)) ↔ w &&& 0xFFFFFFF8#32 = 0x10000000#32) ∧
    (decode w = .ok .noise ↔ w &&& 0xFFFFFFFF#32 = 0x11000000#32) ∧
    (decode w = .ok .patstep ↔ w &&& 0xFFFFFFFF#32 = 0x12000000#32) ∧
    (decode w = .ok .tclk ↔ w &&& 0xFFFFFFFF#32 = 0x20000000#32) ∧
    (decode w = .ok .atick ↔ w &&& 0xFFFFFFFF#32 = 0x21000000#32) ∧
    (decode w = .ok .lfostep ↔ w &&& 0xFFFFFFFF#32 = 0x30000000#32) ∧
    (decode w = .ok .envstep ↔ w &&& 0xFFFFFFFF#32 = 0x31000000#32) ∧
    (decode w = .ok .resolve ↔ w &&& 0xFFFFFFFF#32 = 0x32000000#32) ∧
    (decode w = .ok .ctick ↔ w &&& 0xFFFFFFFF#32 = 0x33000000#32) ∧
    ((∃ n, decode w = .ok (.noteon n)) ↔ w &&& 0xFFFFFF80#32 = 0x40000000#32) ∧
    ((∃ n, decode w = .ok (.noteoff n)) ↔ w &&& 0xFFFFFF80#32 = 0x41000000#32) ∧
    (decode w = .ok .stop ↔ w &&& 0xFFFFFFFF#32 = 0x42000000#32)) ∧
  ∀ (i j : Instr) (w : Word), i.row.selects w = true → j.row.selects w = true → i.row = j.row

/-- R81: each operand is its field of the word, unsigned. -/
def Obligations.OperandsAreTheirFields : Prop :=
  ∀ w : Word,
    (∀ a d, decode w = .ok (.wrreg a d) →
      a.toNat = w.toNat / 65536 % 256 ∧ d.toNat = w.toNat % 65536) ∧
    (∀ a, decode w = .ok (.rdreg a) → a.toNat = w.toNat / 65536 % 256) ∧
    (∀ i, decode w = .ok (.poly i) → i.toNat = w.toNat % 8) ∧
    (∀ n, decode w = .ok (.noteon n) → n.toNat = w.toNat % 128) ∧
    (∀ n, decode w = .ok (.noteoff n) → n.toNat = w.toNat % 128)

/-- R86: which words are ILLEGAL, and that performing one is `reject()`. -/
def Obligations.IllegalWordsAreTheThreeCasesAndReject : Prop :=
  ∀ w : Word,
    ((∃ e, decode w = .error e) ↔
      (w.toNat / 16777216 ∉
          [0x00, 0x01, 0x02, 0x10, 0x11, 0x12, 0x20, 0x21, 0x30, 0x31, 0x32, 0x33, 0x40, 0x41, 0x42]) ∨
        (w.toNat / 65536 % 256 ≠ 0 ∧ w.toNat / 16777216 ∉ [0x01, 0x02]) ∨
        (w.toNat % 65536 ≠ 0 ∧ w.toNat / 16777216 ∈
          [0x00, 0x02, 0x11, 0x12, 0x20, 0x21, 0x30, 0x31, 0x32, 0x33, 0x42]) ∨
        (w.toNat % 65536 / 8 ≠ 0 ∧ w.toNat / 16777216 = 0x10) ∨
        (w.toNat % 65536 / 128 ≠ 0 ∧ w.toNat / 16777216 ∈ [0x40, 0x41])) ∧
    ∀ (s : State) (ws : List Word) (e : Illegal), decode w = .error e → s.port = w :: ws →
      step s = .next { s with port := ws, cmdErr := true, resp := 0 }

/-- R85: words written out from the pattern strings decode to their commands. -/
def Obligations.SpecWordsDecode : Prop :=
  decode 0b00000000000000000000000000000000#32 = .ok .nop ∧
  decode 0b00000001000001101010101111001101#32 = .ok (.wrreg 0x06 0xABCD) ∧
  decode 0b00000010000100000000000000000000#32 = .ok (.rdreg 0x10) ∧
  decode 0b00010000000000000000000000000101#32 = .ok (.poly 5) ∧
  decode 0b00100000000000000000000000000000#32 = .ok .tclk ∧
  decode 0b00110011000000000000000000000000#32 = .ok .ctick ∧
  decode 0b01000000000000000000000001000101#32 = .ok (.noteon 69)

/-- R89: the assembler accepts exactly the operands that fit their field, and loses nothing of them. -/
def Obligations.AssemblerRefusesOperandsThatDoNotFit : Prop :=
  (∀ i : Instr, i.toSource.toInstr = some i) ∧
  (∀ (c : SourceCmd) (i : Instr), c.toInstr = some i → i.toSource = c) ∧
  (∀ a d : Nat, (SourceCmd.wrreg a d).toInstr = none ↔ 0xFF < a ∨ 0xFFFF < d) ∧
  (∀ a : Nat, (SourceCmd.rdreg a).toInstr = none ↔ 0xFF < a) ∧
  (∀ i : Nat, (SourceCmd.poly i).toInstr = none ↔ 7 < i) ∧
  (∀ n : Nat, (SourceCmd.noteon n).toInstr = none ↔ 127 < n) ∧
  (∀ n : Nat, (SourceCmd.noteoff n).toInstr = none ↔ 127 < n)

/-- R90: the pseudo-instructions and their expansions. -/
def Obligations.PseudoInstructionsExpand : Prop :=
  (∀ i : Nat, i ≤ 7 → expandPseudo (.setwavePat i) = some [.wrreg 0x00 i] ∧
    expandPseudo (.setwavePoly i) = some [.wrreg 0x00 (0x10 + i)]) ∧
  expandPseudo .setwaveNoise = some [.wrreg 0x00 0x08] ∧
  expandPseudo .clrerr = some [.wrreg 0x10 0x0060] ∧
  (∀ f d w : Nat, expandPseudo (.setlfo f d w) =
    some [.wrreg 0x06 f, .wrreg 0x07 d, .wrreg 0x08 w]) ∧
  (∀ f w : Nat, expandPseudo (.setenv f w) = some [.wrreg 0x0B f, .wrreg 0x0C w]) ∧
  ∀ p : Nat, expandPseudo (.setpitch p) = some [.wrreg 0x05 p]

/-! ## Steps and the command port -/

/-- R60: a step performs the command its next word decodes to, and removes that word from the port. -/
def Obligations.StepPerformsTheDecodedCommand : Prop :=
  ∀ (s : State) (w : Word) (ws : List Word) (i : Instr),
    s.port = w :: ws → decode w = .ok i → step s = exec i { s with port := ws }

/-- The model's choice for an empty port (log 1; R252 "keeps all state"): a step changes nothing. -/
def Obligations.StepWithoutACommandKeepsTheState : Prop :=
  ∀ s : State, s.port = [] → step s = .next s

/-- R23, R60: what a command does depends on neither the waiting words nor the last response (fields of
the model's own, logs 1 and 2), and it leaves the waiting words alone. -/
def Obligations.CommandsIgnoreThePortAndTheResponse : Prop :=
  ∀ (i : Instr) (s : State) (ws : List Word) (r : BitVec 16),
    exec i { s with port := ws, resp := r } =
      match exec i s with
      | .next t => .next { t with port := ws }
      | .fault f => .fault f
      | .refused q => .refused q

/-- R62: whichever inputs one cycle has, they run in the order host command, note event, CTICK, TCLK; an
absent input leaves the state to the next one. -/
def Obligations.InputsOfOneCycleRunInOrder : Prop :=
  ∀ (c : CycleInputs) (s : State), StateInv s → s.port = [] →
    ∃ h n k t : State,
      (match c.host with
        | some r => exec (regAccessCmd r) s = .next h
        | none => h = s) ∧
      (match c.note with
        | some e => exec (noteEventCmd e) h = .next n
        | none => n = h) ∧
      (if c.ctick then exec .ctick n = .next k else k = n) ∧
      (if c.tclk then exec .tclk k = .next t else t = k) ∧
      runSteps (cycleCommands c).length (presentCycle c s) = .next t

/-! ## Reset -/

/-- R260: the reset table, and STATUS at reset. -/
def Obligations.ResetLeavesTheTabulatedValues : Prop :=
  ∀ (c : Config) (s : State), powerOn c = .next s →
    s.wsel = 0b00000 ∧ s.pattern = c.patternTable[0] ∧ s.prngA = c.prngASeed ∧
    readPrngB s = (if c.prngShared then c.prngASeed else c.prngBSeed) ∧
    s.r4 = c.poly4Seed ∧ s.r5 = c.poly5Seed ∧ s.pitch = 0x0000 ∧
    s.lfoFreq = 0 ∧ s.lfoDepth = 0 ∧ s.lfoWave = 0 ∧ s.lfoDelta = 0 ∧
    s.lfoPhase = 0 ∧ s.lfoValue = 0 ∧ s.lfoInd = false ∧
    s.envFreq = 0 ∧ s.envWidth = 0 ∧ s.envPhase = 0 ∧ s.envGate = true ∧
    s.period = 200 ∧ s.count = 0 ∧ s.out = false ∧
    s.noteOn = true ∧ s.ext = false ∧ s.lastNote = 0 ∧ s.rangeErr = false ∧ s.cmdErr = false ∧
    exec (.rdreg 0x10) s = .next { s with resp := 0x0005 }

/-- R262: power-on refuses exactly the configurations with a zero seed, and else resets. -/
def Obligations.PowerOnRefusesZeroSeeds : Prop :=
  ∀ c : Config,
    ((c.prngASeed = 0 ∨ c.prngBSeed = 0 ∨ c.poly4Seed = 0 ∨ c.poly5Seed = 0) →
      powerOn c = .refused .badConfiguration) ∧
    (¬(c.prngASeed = 0 ∨ c.prngBSeed = 0 ∨ c.poly4Seed = 0 ∨ c.poly5Seed = 0) →
      powerOn c = .next (State.resetWith c))

/-- The invariant (R24, R33, R114, R155) holds right after reset, for every valid configuration. -/
def Obligations.ResetMeetsTheInvariant : Prop :=
  (∀ c : Config, c.valid = true → StateInv (State.resetWith c)) ∧ StateInv State.reset

/-! ## Invariants and whole-machine rules -/

/-- R24, R33, R114, R155: every step keeps the invariant. -/
def Obligations.StepKeepsTheInvariant : Prop :=
  ∀ s t : State, StateInv s → step s = .next t → StateInv t

/-- R240, R252: from power-on with a valid configuration the block never stops, whatever words the
environment presents between steps. -/
def Obligations.RunsFromPowerOnNeverStop : Prop :=
  ∀ (c : Config) (s t : State) (n : Nat), powerOn c = .next s → Reaches s t →
    ∃ u, runSteps n t = .next u

/-- R41: `COUNT <= PERIOD` holds in every reachable state. -/
def Obligations.CountNeverPassesPeriod : Prop :=
  ∀ (c : Config) (s t : State), powerOn c = .next s → Reaches s t →
    t.count.toNat ≤ t.period.toNat

/-- R50, R22: each register is written only by the commands of the ownership list, and the
configuration by none. -/
def Obligations.RegistersHaveFixedWriters : Prop :=
  ∀ (i : Instr) (s t : State), exec i s = .next t →
    t.cfg = s.cfg ∧ t.port = s.port ∧
    (t.wsel ≠ s.wsel → ∃ d, i = .wrreg 0x00 d) ∧
    (t.pattern ≠ s.pattern → i = .patstep ∨ (s.wsel.toNat / 8 = 0 ∧ (i = .atick ∨ i = .tclk)) ∨
      ∃ d, i = .wrreg 0x00 d) ∧
    (t.prngA ≠ s.prngA → i = .noise ∨ (s.wsel.toNat / 8 = 1 ∧ (i = .atick ∨ i = .tclk)) ∨
      (s.cfg.prngShared = true ∧ s.lfoWave = 7 ∧ (i = .lfostep ∨ i = .ctick))) ∧
    (t.prngB ≠ s.prngB →
      s.cfg.prngShared = false ∧ s.lfoWave = 7 ∧ (i = .lfostep ∨ i = .ctick)) ∧
    (t.r4 ≠ s.r4 ∨ t.r5 ≠ s.r5 →
      (∃ k, i = .poly k) ∨ (s.wsel.toNat / 8 = 2 ∧ (i = .atick ∨ i = .tclk))) ∧
    (t.pitch ≠ s.pitch → (∃ d, i = .wrreg 0x05 d) ∨ ∃ n, i = .noteon n) ∧
    (t.lfoFreq ≠ s.lfoFreq → ∃ d, i = .wrreg 0x06 d) ∧
    (t.lfoDepth ≠ s.lfoDepth → ∃ d, i = .wrreg 0x07 d) ∧
    (t.lfoWave ≠ s.lfoWave → ∃ d, i = .wrreg 0x08 d) ∧
    (t.lfoDelta ≠ s.lfoDelta → ∃ d, i = .wrreg 0x06 d ∨ i = .wrreg 0x07 d) ∧
    (t.envFreq ≠ s.envFreq → ∃ d, i = .wrreg 0x0B d) ∧
    (t.envWidth ≠ s.envWidth → ∃ d, i = .wrreg 0x0C d) ∧
    (t.lfoPhase ≠ s.lfoPhase ∨ t.lfoValue ≠ s.lfoValue ∨ t.lfoInd ≠ s.lfoInd →
      i = .lfostep ∨ i = .ctick) ∧
    (t.envPhase ≠ s.envPhase ∨ t.envGate ≠ s.envGate → i = .envstep ∨ i = .ctick) ∧
    (t.period ≠ s.period → i = .resolve ∨ i = .ctick) ∧
    (t.count ≠ s.count → i = .tclk ∨ i = .resolve ∨ i = .ctick) ∧
    (t.out ≠ s.out → i = .atick ∨ i = .tclk) ∧
    (t.noteOn ≠ s.noteOn ∨ t.ext ≠ s.ext → (∃ n, i = .noteon n ∨ i = .noteoff n) ∨ i = .stop) ∧
    (t.lastNote ≠ s.lastNote → ∃ n, i = .noteon n) ∧
    (t.rangeErr ≠ s.rangeErr → i = .resolve ∨ i = .ctick ∨ ∃ d, i = .wrreg 0x10 d) ∧
    (t.cmdErr ≠ s.cmdErr → t = { s with cmdErr := true, resp := 0 } ∨ ∃ d, i = .wrreg 0x10 d)

/-- R226: every note event sets EXT, and no step clears it. -/
def Obligations.NoteEventsSetExtAndNothingClearsIt : Prop :=
  (∀ (e : NoteEvent) (s : State), ∃ t, exec (noteEventCmd e) s = .next t ∧ t.ext = true) ∧
  ∀ s t : State, s.ext = true → step s = .next t → t.ext = true

/-- R45, R46, R243: only a WRREG STATUS with the matching bit set clears an error flag. -/
def Obligations.ErrorFlagsClearOnlyByStatusWrites : Prop :=
  ∀ s t : State, step s = .next t →
    (s.rangeErr = true → t.rangeErr = false →
      ∃ w ws d, s.port = w :: ws ∧ decode w = .ok (.wrreg 0x10 d) ∧ d.getLsbD 5 = true) ∧
    (s.cmdErr = true → t.cmdErr = false →
      ∃ w ws d, s.port = w :: ws ∧ decode w = .ok (.wrreg 0x10 d) ∧ d.getLsbD 6 = true)

/-- R153: audio_out changes only in an audio tick, that is in ATICK or in a TCLK on a match. -/
def Obligations.AudioOutChangesOnlyInAudioTicks : Prop :=
  ∀ s t : State, step s = .next t → audioOut t ≠ audioOut s →
    ∃ w ws, s.port = w :: ws ∧
      (decode w = .ok .atick ∨ (decode w = .ok .tclk ∧ s.count = s.period))

/-- R87: the three cases refused by value perform `reject()`; no other command sets CMD_ERR. -/
def Obligations.CommandsRefusedByValue : Prop :=
  (∀ (s : State) (a : BitVec 8) (d : BitVec 16),
    (0x12 ≤ a.toNat ∨
        a.toNat ∈ [0x01, 0x02, 0x03, 0x04, 0x09, 0x0A, 0x0D, 0x0E, 0x0F, 0x11] ∨
        (a.toNat = 0x00 ∧ d.toNat % 32 / 8 = 3)) →
      exec (.wrreg a d) s = .next { s with cmdErr := true, resp := 0 }) ∧
  (∀ (s : State) (a : BitVec 8), 0x12 ≤ a.toNat →
    exec (.rdreg a) s = .next { s with cmdErr := true, resp := 0 }) ∧
  ∀ (i : Instr) (s t : State), exec i s = .next t → s.cmdErr = false → t.cmdErr = true →
    (∃ a d, i = .wrreg a d ∧ (0x12 ≤ a.toNat ∨
        a.toNat ∈ [0x01, 0x02, 0x03, 0x04, 0x09, 0x0A, 0x0D, 0x0E, 0x0F, 0x11] ∨
        (a.toNat = 0x00 ∧ d.toNat % 32 / 8 = 3))) ∨
      ∃ a, i = .rdreg a ∧ 0x12 ≤ a.toNat

/-- R69: a repeated write of the same value leaves the state as the first write left it. -/
def Obligations.RepeatedWritesChangeNothingMore : Prop :=
  ∀ (a : BitVec 8) (d : BitVec 16) (s : State),
    ∃ t, exec (.wrreg a d) s = .next t ∧ exec (.wrreg a d) t = .next t

/-! ## Host commands -/

/-- R215: NOP is the word 0 exactly and leaves every register unchanged; its response is 0; any other word
with its OP performs `reject()`. -/
def Obligations.NopChangesNothing : Prop :=
  (∀ s : State, exec .nop s = .next { s with resp := 0 }) ∧
  (∀ w : Word, decode w = .ok .nop ↔ w = 0x00000000#32) ∧
  ∀ w : Word, w.toNat / 16777216 = 0 → w ≠ 0 →
    ∀ (s : State) (ws : List Word), s.port = w :: ws →
      step s = .next { s with port := ws, cmdErr := true, resp := 0 }

/-- R217: the three outcomes of a write of WSEL. -/
def Obligations.WselWriteSelectsAndReloads : Prop :=
  ∀ (s : State) (d : BitVec 16),
    (d.toNat % 32 / 8 = 3 →
      exec (.wrreg 0x00 d) s = .next { s with cmdErr := true, resp := 0 }) ∧
    (d.toNat % 32 / 8 ≠ 3 → d.toNat % 32 = s.wsel.toNat →
      exec (.wrreg 0x00 d) s = .next { s with resp := 0 }) ∧
    (d.toNat % 32 ≠ s.wsel.toNat → d.toNat % 32 / 8 = 0 →
      exec (.wrreg 0x00 d) s =
        .next { s with
          wsel := d.setWidth 5
          pattern := s.cfg.patternTable.get (Fin.ofNat 8 d.toNat)
          resp := 0 }) ∧
    (d.toNat % 32 ≠ s.wsel.toNat → (d.toNat % 32 / 8 = 1 ∨ d.toNat % 32 / 8 = 2) →
      exec (.wrreg 0x00 d) s = .next { s with wsel := d.setWidth 5, resp := 0 })

/-- R218: a write of PITCH is dropped without error while EXT = 1. -/
def Obligations.PitchWriteIsDroppedUnderExt : Prop :=
  ∀ (s : State) (d : BitVec 16),
    (s.ext = false → exec (.wrreg 0x05 d) s = .next { s with pitch := d, resp := 0 }) ∧
    (s.ext = true → exec (.wrreg 0x05 d) s = .next { s with resp := 0 })

/-- R220: writes of the LFO parameters, with LFO_DELTA recomputed; phase and value stay. -/
def Obligations.LfoParameterWritesRecomputeDelta : Prop :=
  ∀ (s : State) (d : BitVec 16),
    exec (.wrreg 0x06 d) s =
      .next { s with
        lfoFreq := d.setWidth 8
        lfoDelta := if d.toNat % 256 = 0 then 0
          else BitVec.ofNat 16 (s.lfoDepth.toNat * 256 / (d.toNat % 256))
        resp := 0 } ∧
    exec (.wrreg 0x07 d) s =
      .next { s with
        lfoDepth := d.setWidth 8
        lfoDelta := if s.lfoFreq.toNat = 0 then 0
          else BitVec.ofNat 16 (d.toNat % 256 * 256 / s.lfoFreq.toNat)
        resp := 0 } ∧
    exec (.wrreg 0x08 d) s = .next { s with lfoWave := d.setWidth 3, resp := 0 }

/-- R222: writes of the envelope parameters; phase and gate stay. -/
def Obligations.EnvelopeParameterWrites : Prop :=
  ∀ (s : State) (d : BitVec 16),
    exec (.wrreg 0x0B d) s = .next { s with envFreq := d.setWidth 8, resp := 0 } ∧
    exec (.wrreg 0x0C d) s = .next { s with envWidth := d.setWidth 8, resp := 0 }

/-- R219: a write of STATUS clears the flags whose bit is set, is never refused, and ignores the other
bits. -/
def Obligations.StatusWriteClearsFlags : Prop :=
  ∀ (s : State) (d : BitVec 16),
    exec (.wrreg 0x10 d) s =
      .next { s with
        rangeErr := if d.toNat / 32 % 2 = 1 then false else s.rangeErr
        cmdErr := if d.toNat / 64 % 2 = 1 then false else s.cmdErr
        resp := 0 }

/-- R47, R48, R49: what RDREG answers at each of the 18 addresses, with no side effect, and `reject()`
above them. -/
def Obligations.RdregAnswersTheRegisterMap : Prop :=
  ∀ (s : State) (a : BitVec 8),
    exec (.rdreg a) s =
      match ([s.wsel.toNat, s.pattern.toNat, s.prngA.toNat,
          (if s.cfg.prngShared then s.prngA.toNat else s.prngB.toNat),
          s.r4.toNat + 16 * s.r5.toNat, s.pitch.toNat, s.lfoFreq.toNat, s.lfoDepth.toNat,
          s.lfoWave.toNat, s.lfoDelta.toNat, s.lfoValue.toNat + 256 * s.lfoPhase.toNat,
          s.envFreq.toNat, s.envWidth.toNat, s.envPhase.toNat, s.period.toNat, s.count.toNat,
          s.noteOn.toNat + 2 * s.ext.toNat + 4 * s.envGate.toNat + 8 * s.lfoInd.toNat
            + 16 * s.out.toNat + 32 * s.rangeErr.toNat + 64 * s.cmdErr.toNat,
          s.lastNote.toNat] : List Nat)[a.toNat]? with
      | some v => .next { s with resp := BitVec.ofNat 16 v }
      | none => .next { s with cmdErr := true, resp := 0 }

/-! ## Bit sources -/

/-- R110: PATSTEP moves every bit one place down and bit 0 to the top, and answers bit 0; sixteen
PATSTEPs answer the bits of PATTERN from 0 to 15 and restore it. -/
def Obligations.PatstepRotatesThePattern : Prop :=
  (∀ s : State, ∃ p : BitVec 16,
    (∀ k, k < 16 → p.getLsbD k = s.pattern.getLsbD ((k + 1) % 16)) ∧
    exec .patstep s =
      .next { s with pattern := p, resp := if s.pattern.getLsbD 0 then 1 else 0 }) ∧
  ∀ (s : State) (ws : List Word), s.port = List.replicate 16 0x12000000#32 ++ ws →
    (∀ k, k < 16 → ∃ u, runSteps (k + 1) s = .next u ∧
      u.resp = if s.pattern.getLsbD k then 1 else 0) ∧
    ∃ t, runSteps 16 s = .next t ∧ t.pattern = s.pattern ∧ t.port = ws

/-- R112, R113: `prng_next` is the formula, with 0 as a fixed point; NOISE steps PRNG_A by it and answers
bit 0 of the new value. -/
def Obligations.NoiseStepsTheGenerator : Prop :=
  (∀ v : BitVec 16,
    (prngNext v).toNat = v.toNat / 2 ^^^ (if v.toNat % 2 = 1 then 0xB400 else 0x0000)) ∧
  prngNext 0 = 0 ∧
  ∀ (s : State) (v : BitVec 16), v = prngNext s.prngA →
    exec .noise s = .next { s with prngA := v, resp := if v.getLsbD 0 then 1 else 0 }

/-- R114: from every nonzero value the generator returns after exactly 65535 steps. -/
def Obligations.GeneratorHasFullPeriod : Prop :=
  ∀ v : BitVec 16, v ≠ 0 →
    prngNext^[65535] v = v ∧ ∀ n, 0 < n → n < 65535 → prngNext^[n] v ≠ v ∧ prngNext^[n] v ≠ 0

/-- R115, R116: the tap functions, and their periods. -/
def Obligations.TapFunctionsAreMaximalLength : Prop :=
  (∀ r : BitVec 4, (t4 r).toNat =
      2 * (r.toNat % 8) + (if r.getLsbD 3 = r.getLsbD 2 then 0 else 1)) ∧
  (∀ r : BitVec 4, r ≠ 0 → t4^[15] r = r ∧ ∀ n, 0 < n → n < 15 → t4^[n] r ≠ r) ∧ t4 0 = 0 ∧
  (∀ r : BitVec 5, (t5 r).toNat =
      2 * (r.toNat % 16) + (if r.getLsbD 4 = r.getLsbD 2 then 0 else 1)) ∧
  (∀ r : BitVec 5, r ≠ 0 → t5^[31] r = r ∧ ∀ n, 0 < n → n < 31 → t5^[n] r ≠ r) ∧ t5 0 = 0

/-- R118, R127: POLY applies the rule POLY_RULES holds at its index to R4 and R5 and answers R4[3] after
the update; a rule given by a table answers the table's entry (log 9). -/
def Obligations.PolyAppliesTheRuleOfItsIndex : Prop :=
  (∀ (s : State) (i : BitVec 3) (a : BitVec 4) (b : BitVec 5),
    polyRuleNext (s.cfg.polyRules.get (Fin.ofNat 8 i.toNat)) s.r4 s.r5 = (a, b) →
    exec (.poly i) s =
      .next { s with r4 := a, r5 := b, resp := if 8 ≤ a.toNat then 1 else 0 }) ∧
  ∀ (next : Vector PolyPair 512) (a : BitVec 4) (b : BitVec 5),
    (polyRuleNext (.given next) a b).1.toNat * 32 + (polyRuleNext (.given next) a b).2.toNat =
      (next.get (Fin.ofNat 512 (a.toNat * 32 + b.toNat))).toNat

/-- R119 to R124: the first six default rules, with conditions tested on the advanced R5 (R117). -/
def Obligations.FirstSixPolyRules : Prop :=
  ∀ s : State, s.cfg.polyRules = Config.defaultPolyRules →
    exec (.poly 0) s =
      .next { s with r4 := t4 s.r4, resp := if (t4 s.r4).getLsbD 3 then 1 else 0 } ∧
    (((t5 s.r5).toNat % 16 = 8 → exec (.poly 1) s = .next { s with
        r4 := t4 s.r4, r5 := t5 s.r5, resp := if (t4 s.r4).getLsbD 3 then 1 else 0 }) ∧
      ((t5 s.r5).toNat % 16 ≠ 8 → exec (.poly 1) s = .next { s with
        r5 := t5 s.r5, resp := if s.r4.getLsbD 3 then 1 else 0 })) ∧
    ((16 ≤ (t5 s.r5).toNat → exec (.poly 2) s = .next { s with
        r4 := t4 s.r4, r5 := t5 s.r5, resp := if (t4 s.r4).getLsbD 3 then 1 else 0 }) ∧
      ((t5 s.r5).toNat < 16 → exec (.poly 2) s = .next { s with
        r5 := t5 s.r5, resp := if s.r4.getLsbD 3 then 1 else 0 })) ∧
    exec (.poly 3) s = .next { s with r4 := ~~~s.r4, resp := if s.r4.getLsbD 3 then 0 else 1 } ∧
    (((t5 s.r5).toNat % 16 = 8 → exec (.poly 4) s = .next { s with
        r4 := ~~~s.r4, r5 := t5 s.r5, resp := if s.r4.getLsbD 3 then 0 else 1 }) ∧
      ((t5 s.r5).toNat % 16 ≠ 8 → exec (.poly 4) s = .next { s with
        r5 := t5 s.r5, resp := if s.r4.getLsbD 3 then 1 else 0 })) ∧
    ((16 ≤ (t5 s.r5).toNat → exec (.poly 5) s = .next { s with
        r4 := ~~~s.r4, r5 := t5 s.r5, resp := if s.r4.getLsbD 3 then 0 else 1 }) ∧
      ((t5 s.r5).toNat < 16 → exec (.poly 5) s = .next { s with
        r5 := t5 s.r5, resp := if s.r4.getLsbD 3 then 1 else 0 }))

/-- R125: index 6 shifts `P = {R4, R5}` left with feedback P[8] XOR P[4]; every nonzero P recurs after
exactly 511 steps, and 0 is a fixed point. -/
def Obligations.PolyNineShiftsOneNineBitRegister : Prop :=
  (∀ s : State, s.cfg.polyRules = Config.defaultPolyRules →
    ∃ a b, exec (.poly 6) s =
        .next { s with r4 := a, r5 := b, resp := if a.getLsbD 3 then 1 else 0 } ∧
      a.toNat * 32 + b.toNat =
        2 * ((s.r4.toNat * 32 + s.r5.toNat) % 256)
          + (if s.r4.getLsbD 3 = s.r5.getLsbD 4 then 0 else 1)) ∧
  (∀ p : BitVec 4 × BitVec 5, p ≠ (0, 0) →
    (fun q => poly9Next q.1 q.2)^[511] p = p ∧
    ∀ n, 0 < n → n < 511 → (fun q => poly9Next q.1 q.2)^[n] p ≠ p) ∧
  poly9Next 0 0 = (0, 0)

/-- R126: index 7 steps R5 by its taps and shifts the bit that leaves it into R4; after four steps
R4[3] is the bit that left R5 four steps earlier, and from the default seeds the pair enters its
31-step cycle after 4 steps. -/
def Obligations.PolyFiveIsADelayLine : Prop :=
  (∀ s : State, s.cfg.polyRules = Config.defaultPolyRules →
    ∃ a, exec (.poly 7) s =
        .next { s with r4 := a, r5 := t5 s.r5, resp := if a.getLsbD 3 then 1 else 0 } ∧
      a.toNat = 2 * (s.r4.toNat % 8) + s.r5.toNat / 16) ∧
  (∀ p : BitVec 4 × BitVec 5,
    ((fun q => poly5Next q.1 q.2)^[4] p).1.getLsbD 3 = p.2.getLsbD 4) ∧
  (∀ m, 4 ≤ m → (fun q => poly5Next q.1 q.2)^[m + 31] (0xF, 0x1F) =
    (fun q => poly5Next q.1 q.2)^[m] (0xF, 0x1F)) ∧
  ∀ m, m < 4 → ∀ n, 0 < n →
    (fun q => poly5Next q.1 q.2)^[m + n] (0xF, 0x1F) ≠ (fun q => poly5Next q.1 q.2)^[m] (0xF, 0x1F)

/-- R120, R121: from the default seeds rules 1 and 2 have joint period 465. -/
def Obligations.CoupledTapRulesHavePeriod465 : Prop :=
  ∀ r : PolyRule, r = .tap5CondATap4 ∨ r = .tap5CondBTap4 →
    (fun q : BitVec 4 × BitVec 5 => polyRuleNext r q.1 q.2)^[465] (0xF, 0x1F) = (0xF, 0x1F) ∧
    ∀ n, 0 < n → n < 465 →
      (fun q : BitVec 4 × BitVec 5 => polyRuleNext r q.1 q.2)^[n] (0xF, 0x1F) ≠ (0xF, 0x1F)

/-- R129, R273: rules 0, 1 and 2 keep R4 = 0 and answer 0 for ever; rules 1, 2, 4, 5 and 7 keep R5 = 0;
from the default seeds rules 3 to 7 first reach R4 = 0, and rule 6 first reaches R5 = 0, at the steps R129
gives. -/
def Obligations.PolyLockUp : Prop :=
  (∀ r : PolyRule, r ∈ [PolyRule.tap4, .tap5CondATap4, .tap5CondBTap4] → ∀ (b : BitVec 5) (n : Nat),
    ((fun q : BitVec 4 × BitVec 5 => polyRuleNext r q.1 q.2)^[n] (0, b)).1 = 0) ∧
  (∀ r : PolyRule, r ∈ [PolyRule.tap5CondATap4, .tap5CondBTap4, .tap5CondADiv2, .tap5CondBDiv2, .poly5] →
    ∀ (a : BitVec 4) (n : Nat),
      ((fun q : BitVec 4 × BitVec 5 => polyRuleNext r q.1 q.2)^[n] (a, 0)).2 = 0) ∧
  (∀ x ∈ [(PolyRule.div2, 1), (.tap5CondADiv2, 3), (.tap5CondBDiv2, 1), (.poly9, 9), (.poly5, 22)],
    ((fun q : BitVec 4 × BitVec 5 => polyRuleNext x.1 q.1 q.2)^[x.2] (0xF, 0x1F)).1 = 0 ∧
    ∀ n, n < x.2 → ((fun q : BitVec 4 × BitVec 5 => polyRuleNext x.1 q.1 q.2)^[n] (0xF, 0x1F)).1 ≠ 0) ∧
  ((fun q : BitVec 4 × BitVec 5 => polyRuleNext .poly9 q.1 q.2)^[5] (0xF, 0x1F)).2 = 0 ∧
  ∀ n, n < 5 → ((fun q : BitVec 4 × BitVec 5 => polyRuleNext .poly9 q.1 q.2)^[n] (0xF, 0x1F)).2 ≠ 0

/-! ## The audio sample clock -/

/-- R130, R151, R152: ATICK takes one bit from the source WSEL selects, whatever the gates are, and
drives OUT with the gated bit; the other sources keep their state. -/
def Obligations.AtickTakesOneBitAndGatesIt : Prop :=
  ∀ s : State,
    (s.wsel.toNat / 8 = 0 → ∀ o : Bool, o = (s.pattern.getLsbD 0 && s.envGate && s.noteOn) →
      exec .atick s = .next { s with
        pattern := s.pattern.rotateRight 1
        out := o
        resp := BitVec.ofNat 16 (2 * (s.pattern.getLsbD 0).toNat + o.toNat) }) ∧
    (s.wsel.toNat / 8 = 1 → ∀ o : Bool,
      o = ((prngNext s.prngA).getLsbD 0 && s.envGate && s.noteOn) →
      exec .atick s = .next { s with
        prngA := prngNext s.prngA
        out := o
        resp := BitVec.ofNat 16 (2 * ((prngNext s.prngA).getLsbD 0).toNat + o.toNat) }) ∧
    (s.wsel.toNat / 8 = 2 → ∀ (a : BitVec 4) (b : BitVec 5) (o : Bool),
      polyRuleNext (s.cfg.polyRules.get (Fin.ofNat 8 s.wsel.toNat)) s.r4 s.r5 = (a, b) →
      o = (a.getLsbD 3 && s.envGate && s.noteOn) →
      exec .atick s = .next { s with
        r4 := a
        r5 := b
        out := o
        resp := BitVec.ofNat 16 (2 * (a.getLsbD 3).toNat + o.toNat) })

/-- The model's reading of R130's "unreachable" (log 6): a waveform bit asked for in the reserved class
stops the machine, in ATICK and in a TCLK that fires. -/
def Obligations.ReservedClassStopsTheAudioTick : Prop :=
  ∀ s : State, s.wsel.toNat / 8 = 3 →
    exec .atick s = .fault .reservedClass ∧
    (s.count = s.period → exec .tclk s = .fault .reservedClass)

/-- R150: TCLK counts up to PERIOD; on a match it clears COUNT and fires the audio tick that ATICK
would perform. -/
def Obligations.TclkCountsAndFires : Prop :=
  ∀ s : State,
    (s.count ≠ s.period →
      exec .tclk s = .next { s with
        count := BitVec.ofNat 16 (s.count.toNat + 1)
        resp := BitVec.ofNat 16 (2 * s.out.toNat) }) ∧
    (s.count = s.period → s.wsel.toNat / 8 ≠ 3 →
      ∃ t, exec .atick s = .next t ∧
        exec .tclk s = .next { t with count := 0, resp := BitVec.ofNat 16 (2 * t.out.toNat + 1) })

/-- R150, R155: from any COUNT not above PERIOD the next tick fires on the TCLK numbered
PERIOD - COUNT + 1 and on none before it, and until then the TCLKs change COUNT alone. -/
def Obligations.NextTickComesWithinPeriodPlusOneTclks : Prop :=
  ∀ (s : State) (ws : List Word) (n : Nat), s.wsel.toNat / 8 ≠ 3 →
    s.count.toNat + n = s.period.toNat →
    s.port = List.replicate (n + 1) 0x20000000#32 ++ ws →
    (∀ k, 0 < k → k ≤ n → runSteps k s = .next { s with
      count := BitVec.ofNat 16 (s.count.toNat + k)
      port := List.replicate (n + 1 - k) 0x20000000#32 ++ ws
      resp := BitVec.ofNat 16 (2 * s.out.toNat) }) ∧
    ∃ t, runSteps (n + 1) s = .next t ∧ t.count = 0 ∧ t.period = s.period ∧ t.port = ws ∧
      t.resp = BitVec.ofNat 16 (2 * t.out.toNat + 1)

/-! ## The LFO -/

/-- R171: with LFO_FREQ = 0 every step gives value 0, indicator 0 and phase 0, and draws nothing. -/
def Obligations.LfoIsFlatAtFrequencyZero : Prop :=
  ∀ s : State, s.lfoFreq = 0 →
    exec .lfostep s = .next { s with lfoPhase := 0, lfoValue := 0, lfoInd := false, resp := 0 }

/-- R173 to R179, R170, R172, R182: one LFO step with a computed waveform, at the phase before it
advances (0 where the phase is not below LFO_FREQ). -/
def Obligations.LfoStepComputesItsWaveform : Prop :=
  ∀ (s : State) (F D d p h q v : Nat), s.lfoFreq ≠ 0 →
    F = s.lfoFreq.toNat → D = s.lfoDepth.toNat → d = s.lfoDelta.toNat →
    p = (if F ≤ s.lfoPhase.toNat then 0 else s.lfoPhase.toNat) → h = F >>> 1 → q = F >>> 2 →
    (s.lfoWave = 0 ∧ v = (if p < h then min ((2 * p * d) >>> 8) D
        else min ((2 * (F - p) * d) >>> 8) D) ∨
      s.lfoWave = 1 ∧ v = min ((p * d) >>> 8) D ∨
      s.lfoWave = 2 ∧ v = D - min ((p * d) >>> 8) D ∨
      s.lfoWave = 3 ∧ v = (if p < h then 0 else D) ∨
      s.lfoWave = 4 ∧ v = (if p < q then D else 0) ∨
      s.lfoWave = 5 ∧ v = (if p < h then min ((2 * p * d) >>> 8) D else 0) ∨
      s.lfoWave = 6 ∧ v = (if p < h then D - min ((2 * p * d) >>> 8) D else 0)) →
    exec .lfostep s = .next { s with
      lfoValue := BitVec.ofNat 8 v
      lfoInd := decide (p < h)
      lfoPhase := if F ≤ p + 1 then 0 else BitVec.ofNat 8 (p + 1)
      resp := BitVec.ofNat 16 v }

/-- R180: the random waveform draws one step of PRNG_B (of PRNG_A when shared) at phase 0, modulo the
depth, and holds the value at every other phase. -/
def Obligations.LfoRandomDrawsAtPhaseZero : Prop :=
  ∀ (s : State) (F D p : Nat), s.lfoFreq ≠ 0 → s.lfoWave = 7 →
    F = s.lfoFreq.toNat → D = s.lfoDepth.toNat →
    p = (if F ≤ s.lfoPhase.toNat then 0 else s.lfoPhase.toNat) →
    (p = 0 → ∀ (g : BitVec 16) (v : Nat),
      g = prngNext (if s.cfg.prngShared then s.prngA else s.prngB) →
      v = (if D = 0 then 0 else g.toNat % D) →
      exec .lfostep s = .next { s with
        prngA := if s.cfg.prngShared then g else s.prngA
        prngB := if s.cfg.prngShared then s.prngB else g
        lfoValue := BitVec.ofNat 8 v
        lfoInd := decide (0 < F >>> 1)
        lfoPhase := if F ≤ 1 then 0 else 1
        resp := BitVec.ofNat 16 v }) ∧
    (p ≠ 0 → exec .lfostep s = .next { s with
      lfoInd := decide (p < F >>> 1)
      lfoPhase := if F ≤ p + 1 then 0 else BitVec.ofNat 8 (p + 1)
      resp := s.lfoValue.setWidth 16 })

/-- R181, R180: the computed waveforms never exceed LFO_DEPTH, and a fresh draw stays below a nonzero
LFO_DEPTH. -/
def Obligations.LfoValueStaysWithinDepth : Prop :=
  ∀ s : State, ∃ t, exec .lfostep s = .next t ∧
    (s.lfoWave ≠ 7 → t.lfoValue.toNat ≤ s.lfoDepth.toNat) ∧
    (s.lfoWave = 7 → s.lfoFreq ≠ 0 → s.lfoPhase = 0 → s.lfoDepth ≠ 0 →
      t.lfoValue.toNat < s.lfoDepth.toNat)

/-- R184: the source's properties of the triangle, and where they hold. -/
def Obligations.TrianglePropertiesAndTheirLimits : Prop :=
  ∀ (s : State) (F D d : Nat), F = s.lfoFreq.toNat → D = s.lfoDepth.toNat → F ≠ 0 →
    s.lfoWave = 0 → d = D * 256 / F → s.lfoDelta.toNat = d →
    ∃ t, exec .lfostep s = .next t ∧
      (s.lfoPhase = 0 → 2 ≤ F → t.lfoValue = 0) ∧
      (F = 1 → t.lfoValue = s.lfoDepth) ∧
      (2 ≤ F → s.lfoPhase.toNat = F - 1 → t.lfoValue.toNat = (2 * d) >>> 8) ∧
      (2 ≤ F → s.lfoPhase.toNat = F / 2 →
        (t.lfoValue = s.lfoDepth ↔ D ≤ ((F - F / 2) * 2 * d) >>> 8))

/-- R274: without sharing, PRNG_A has no effect on LFOSTEP and PRNG_B none on NOISE and ATICK; with
sharing, the draw is made from PRNG_A. -/
def Obligations.GeneratorsAreIndependentUnlessShared : Prop :=
  ∀ (s : State) (v : BitVec 16),
    (s.cfg.prngShared = false →
      (∃ t, exec .lfostep s = .next t ∧
        exec .lfostep { s with prngA := v } = .next { t with prngA := v }) ∧
      (∃ t, exec .noise s = .next t ∧
        exec .noise { s with prngB := v } = .next { t with prngB := v }) ∧
      ∀ t, exec .atick s = .next t →
        exec .atick { s with prngB := v } = .next { t with prngB := v }) ∧
    (s.cfg.prngShared = true → s.lfoFreq ≠ 0 → s.lfoWave = 7 → s.lfoPhase = 0 →
      ∃ t u, exec .noise s = .next u ∧ exec .lfostep s = .next t ∧ t.prngA = u.prngA ∧
        t.prngB = s.prngB)

/-! ## The envelope -/

/-- R190, R191, R192: one envelope step, at the phase before it advances (0 where the phase is not below
ENV_FREQ); with ENV_FREQ = 0 the gate is 1. -/
def Obligations.EnvelopeStepGates : Prop :=
  ∀ s : State,
    (s.envFreq = 0 → exec .envstep s = .next { s with envPhase := 0, envGate := true, resp := 1 }) ∧
    (s.envFreq ≠ 0 → ∀ p : Nat,
      p = (if s.envFreq.toNat ≤ s.envPhase.toNat then 0 else s.envPhase.toNat) →
      exec .envstep s = .next { s with
        envGate := decide (p ≤ s.envWidth.toNat)
        envPhase := if s.envFreq.toNat ≤ p + 1 then 0 else BitVec.ofNat 8 (p + 1)
        resp := if p ≤ s.envWidth.toNat then 1 else 0 })

/-- R193: over one period from phase 0 the gate is 1 at phases 0..W and 0 after them, that is for
min(W, E - 1) + 1 steps, and the phase is 0 again. -/
def Obligations.EnvelopeGateOverOnePeriod : Prop :=
  ∀ (s : State) (ws : List Word) (E W : Nat), E = s.envFreq.toNat → W = s.envWidth.toNat → 0 < E →
    s.envPhase = 0 → s.port = List.replicate E 0x31000000#32 ++ ws →
    (∀ p, p < E → ∃ u, runSteps (p + 1) s = .next u ∧ u.envGate = decide (p ≤ W)) ∧
    (∃ t, runSteps E s = .next t ∧ t.envPhase = 0 ∧ t.port = ws) ∧
    ((List.range E).filter fun p => decide (p ≤ W)).length = min W (E - 1) + 1

/-! ## The pitch resolver and the control tick -/

/-- R160, R162: RESOLVE computes the exact value, keeps its low 16 bits as PERIOD, clears COUNT where
the period changed to a value below it, and writes nothing else. -/
def Obligations.ResolveProgramsThePeriod : Prop :=
  ∀ (s : State) (v : Int) (n : BitVec 16),
    v = (if s.ext then (s.pitch.toNat : Int) - 4 * s.lfoValue.toNat
      else 200 + 4 * ((s.pitch.toNat : Int) - s.lfoValue.toNat)) →
    n = BitVec.ofInt 16 v →
    exec .resolve s = .next { s with
      period := n
      count := if n = s.period then s.count
        else if n.toNat < s.count.toNat then 0 else s.count
      rangeErr := s.rangeErr || decide (v < 0 ∨ 0xFFFF < v)
      resp := n }

/-- R161: RANGE_ERR is set exactly where the exact value leaves 0..0xFFFF, and when that is for each
formula; the period is the value modulo 2^16. -/
def Obligations.RangeErrorExactlyOutsideSixteenBits : Prop :=
  ∀ s : State, ∃ t, exec .resolve s = .next t ∧
    (s.ext = true →
      ((s.pitch.toNat < 4 * s.lfoValue.toNat → t.rangeErr = true) ∧
        (¬s.pitch.toNat < 4 * s.lfoValue.toNat → t.rangeErr = s.rangeErr)) ∧
      ((t.period.toNat : Int) = ((s.pitch.toNat : Int) - 4 * s.lfoValue.toNat) % 65536)) ∧
    (s.ext = false →
      (((s.pitch.toNat + 50 < s.lfoValue.toNat ∨ s.lfoValue.toNat + 16333 < s.pitch.toNat) →
          t.rangeErr = true) ∧
        (¬(s.pitch.toNat + 50 < s.lfoValue.toNat ∨ s.lfoValue.toNat + 16333 < s.pitch.toNat) →
          t.rangeErr = s.rangeErr)) ∧
      ((t.period.toNat : Int) =
        (200 + 4 * ((s.pitch.toNat : Int) - s.lfoValue.toNat)) % 65536))

/-- R164: resolving to the period already held resets no counter, and resolving again changes
nothing. -/
def Obligations.ResolvingTheSamePeriodKeepsTheCount : Prop :=
  ∀ s : State, ∃ t, exec .resolve s = .next t ∧ (t.period = s.period → t.count = s.count) ∧
    exec .resolve t = .next t

/-- R163: CTICK is the LFO step, the envelope step and the resolver in that order; the first two may be
exchanged. -/
def Obligations.CtickIsLfoEnvelopeResolve : Prop :=
  ∀ s : State, ∃ a b t, exec .lfostep s = .next a ∧ exec .envstep a = .next b ∧
    exec .resolve b = .next t ∧ exec .ctick s = .next t ∧
    ∃ a' b', exec .envstep s = .next a' ∧ exec .lfostep a' = .next b' ∧ exec .resolve b' = .next t

/-! ## Note events -/

/-- R229, R227: NOTEON, its words, and that a word with its OP and another bit set performs `reject()`. -/
def Obligations.NoteonStartsTheNote : Prop :=
  (∀ (s : State) (n : BitVec 7),
    exec (.noteon n) s = .next { s with
      ext := true
      noteOn := true
      lastNote := n
      pitch := s.cfg.notePeriod.get (Fin.ofNat 128 n.toNat)
      resp := 0 }) ∧
  (∀ n : BitVec 7, decode (0x40000000#32 + n.setWidth 32) = .ok (.noteon n)) ∧
  ∀ w : Word, w.toNat / 16777216 = 0x40 → w.toNat % 16777216 / 128 ≠ 0 →
    ∀ (s : State) (ws : List Word), s.port = w :: ws →
      step s = .next { s with port := ws, cmdErr := true, resp := 0 }

/-- R230: NOTEOFF, its words, and that a word with its OP and another bit set performs `reject()`. -/
def Obligations.NoteoffEndsTheMatchingNote : Prop :=
  (∀ (s : State) (n : BitVec 7),
    (n = s.lastNote → exec (.noteoff n) s = .next { s with ext := true, noteOn := false, resp := 0 }) ∧
    (n ≠ s.lastNote → exec (.noteoff n) s = .next { s with ext := true, resp := 0 })) ∧
  (∀ n : BitVec 7, decode (0x41000000#32 + n.setWidth 32) = .ok (.noteoff n)) ∧
  ∀ w : Word, w.toNat / 16777216 = 0x41 → w.toNat % 16777216 / 128 ≠ 0 →
    ∀ (s : State) (ws : List Word), s.port = w :: ws →
      step s = .next { s with port := ws, cmdErr := true, resp := 0 }

/-- R231: STOP, its word, and that any other word with its OP performs `reject()`. -/
def Obligations.StopClearsNoteOn : Prop :=
  (∀ s : State, exec .stop s = .next { s with ext := true, noteOn := false, resp := 0 }) ∧
  decode 0x42000000#32 = .ok .stop ∧
  ∀ w : Word, w.toNat / 16777216 = 0x42 → w ≠ 0x42000000#32 →
    ∀ (s : State) (ws : List Word), s.port = w :: ws →
      step s = .next { s with port := ws, cmdErr := true, resp := 0 }

end
end

