-- ==== Sys2Proof/Laws/Decode.lean ====
section
/-! SUPPORT. The fields of a word made from its fields, and what decoding a word made from fields is.
With these a proof about words becomes a proof about fields. -/

namespace Sys2Proof

@[simp] theorem opField_cmdWord (op a : BitVec 8) (d : BitVec 16) : opField (cmdWord op a d) = op := by
  apply BitVec.eq_of_getLsbD_eq
  intro k hk
  simp only [opField, cmdWord, BitVec.getLsbD_extractLsb', BitVec.getLsbD_append]
  have h1 : ¬ 24 + k < 16 := by omega
  have h2 : ¬ 24 + k - 16 < 8 := by omega
  simp [hk, h1, h2, show 24 + k - 16 - 8 = k by omega]

@[simp] theorem addrField_cmdWord (op a : BitVec 8) (d : BitVec 16) :
    addrField (cmdWord op a d) = a := by
  apply BitVec.eq_of_getLsbD_eq
  intro k hk
  simp only [addrField, cmdWord, BitVec.getLsbD_extractLsb', BitVec.getLsbD_append]
  simp [hk]

@[simp] theorem dataField_cmdWord (op a : BitVec 8) (d : BitVec 16) :
    dataField (cmdWord op a d) = d := by
  apply BitVec.eq_of_getLsbD_eq
  intro k hk
  simp only [dataField, cmdWord, BitVec.getLsbD_extractLsb', BitVec.getLsbD_append]
  simp [hk]

/-- Every word is made from its three fields (R80). -/
theorem cmdWord_fields (w : Word) : cmdWord (opField w) (addrField w) (dataField w) = w := by
  apply BitVec.eq_of_getLsbD_eq
  intro k hk
  simp only [cmdWord, opField, addrField, dataField, BitVec.getLsbD_append,
    BitVec.getLsbD_extractLsb']
  by_cases h1 : k < 16
  · simp [h1]
  · by_cases h2 : k - 16 < 8
    · simp [h1, h2, show 16 + (k - 16) = k by omega]
    · simp [h1, h2, show 24 + (k - 16 - 8) = k by omega, show k - 16 - 8 < 8 by omega]

@[simp] theorem decode_cmdWord (op a : BitVec 8) (d : BitVec 16) :
    decode (cmdWord op a d) = decodeFields op a d := by
  simp [decode]

/-- A command without operands decodes exactly where A and D are 0. -/
theorem decodeBare_eq_ok {i j : Instr} {a : BitVec 8} {d : BitVec 16}
    (h : decodeBare i a d = .ok j) : a = 0 ∧ d = 0 ∧ j = i := by
  unfold decodeBare at h
  split at h
  · cases h
  · split at h
    · cases h
    · rename_i ha hd
      cases h
      exact ⟨not_not.mp ha, not_not.mp hd, rfl⟩

/-- A command with a low operand decodes exactly where A and the rest of D are 0. -/
theorem decodeLow_eq_ok {n : Nat} {k : BitVec n → Instr} {j : Instr} {a : BitVec 8} {d : BitVec 16}
    (h : decodeLow n k a d = .ok j) : a = 0 ∧ d >>> n = 0 ∧ j = k (d.extractLsb' 0 n) := by
  unfold decodeLow at h
  split at h
  · cases h
  · split at h
    · cases h
    · rename_i ha hd
      cases h
      exact ⟨not_not.mp ha, not_not.mp hd, rfl⟩

/-- RDREG decodes exactly where D is 0. -/
theorem decodeRdreg_eq_ok {j : Instr} {a : BitVec 8} {d : BitVec 16}
    (h : decodeRdreg a d = .ok j) : d = 0 ∧ j = .rdreg a := by
  unfold decodeRdreg at h
  split at h
  · cases h
  · rename_i hd
    cases h
    exact ⟨not_not.mp hd, rfl⟩

end Sys2Proof
end

