-- ==== Sys2Proof/Laws/State.lean ====
section
/-! SUPPORT. For each update of `State` one lemma per field: the field after the update. All hold by
`rfl` and are in the simp set, so that no later proof unfolds an update. -/

namespace Sys2Proof.Machine.State

variable (s : State)

/-! ### setPort -/

section

variable (ws : List Word)

@[simp] theorem setPort_cfg : (s.setPort ws).cfg = s.cfg := rfl
@[simp] theorem setPort_wsel : (s.setPort ws).wsel = s.wsel := rfl
@[simp] theorem setPort_pattern : (s.setPort ws).pattern = s.pattern := rfl
@[simp] theorem setPort_prngA : (s.setPort ws).prngA = s.prngA := rfl
@[simp] theorem setPort_prngB : (s.setPort ws).prngB = s.prngB := rfl
@[simp] theorem setPort_r4 : (s.setPort ws).r4 = s.r4 := rfl
@[simp] theorem setPort_r5 : (s.setPort ws).r5 = s.r5 := rfl
@[simp] theorem setPort_pitch : (s.setPort ws).pitch = s.pitch := rfl
@[simp] theorem setPort_lfoFreq : (s.setPort ws).lfoFreq = s.lfoFreq := rfl
@[simp] theorem setPort_lfoDepth : (s.setPort ws).lfoDepth = s.lfoDepth := rfl
@[simp] theorem setPort_lfoWave : (s.setPort ws).lfoWave = s.lfoWave := rfl
@[simp] theorem setPort_lfoDelta : (s.setPort ws).lfoDelta = s.lfoDelta := rfl
@[simp] theorem setPort_envFreq : (s.setPort ws).envFreq = s.envFreq := rfl
@[simp] theorem setPort_envWidth : (s.setPort ws).envWidth = s.envWidth := rfl
@[simp] theorem setPort_lfoPhase : (s.setPort ws).lfoPhase = s.lfoPhase := rfl
@[simp] theorem setPort_lfoValue : (s.setPort ws).lfoValue = s.lfoValue := rfl
@[simp] theorem setPort_lfoInd : (s.setPort ws).lfoInd = s.lfoInd := rfl
@[simp] theorem setPort_envPhase : (s.setPort ws).envPhase = s.envPhase := rfl
@[simp] theorem setPort_envGate : (s.setPort ws).envGate = s.envGate := rfl
@[simp] theorem setPort_period : (s.setPort ws).period = s.period := rfl
@[simp] theorem setPort_count : (s.setPort ws).count = s.count := rfl
@[simp] theorem setPort_out : (s.setPort ws).out = s.out := rfl
@[simp] theorem setPort_noteOn : (s.setPort ws).noteOn = s.noteOn := rfl
@[simp] theorem setPort_ext : (s.setPort ws).ext = s.ext := rfl
@[simp] theorem setPort_lastNote : (s.setPort ws).lastNote = s.lastNote := rfl
@[simp] theorem setPort_rangeErr : (s.setPort ws).rangeErr = s.rangeErr := rfl
@[simp] theorem setPort_cmdErr : (s.setPort ws).cmdErr = s.cmdErr := rfl
@[simp] theorem setPort_port : (s.setPort ws).port = ws := rfl
@[simp] theorem setPort_resp : (s.setPort ws).resp = s.resp := rfl

end

/-! ### setResp -/

section

variable (r : BitVec 16)

@[simp] theorem setResp_cfg : (s.setResp r).cfg = s.cfg := rfl
@[simp] theorem setResp_wsel : (s.setResp r).wsel = s.wsel := rfl
@[simp] theorem setResp_pattern : (s.setResp r).pattern = s.pattern := rfl
@[simp] theorem setResp_prngA : (s.setResp r).prngA = s.prngA := rfl
@[simp] theorem setResp_prngB : (s.setResp r).prngB = s.prngB := rfl
@[simp] theorem setResp_r4 : (s.setResp r).r4 = s.r4 := rfl
@[simp] theorem setResp_r5 : (s.setResp r).r5 = s.r5 := rfl
@[simp] theorem setResp_pitch : (s.setResp r).pitch = s.pitch := rfl
@[simp] theorem setResp_lfoFreq : (s.setResp r).lfoFreq = s.lfoFreq := rfl
@[simp] theorem setResp_lfoDepth : (s.setResp r).lfoDepth = s.lfoDepth := rfl
@[simp] theorem setResp_lfoWave : (s.setResp r).lfoWave = s.lfoWave := rfl
@[simp] theorem setResp_lfoDelta : (s.setResp r).lfoDelta = s.lfoDelta := rfl
@[simp] theorem setResp_envFreq : (s.setResp r).envFreq = s.envFreq := rfl
@[simp] theorem setResp_envWidth : (s.setResp r).envWidth = s.envWidth := rfl
@[simp] theorem setResp_lfoPhase : (s.setResp r).lfoPhase = s.lfoPhase := rfl
@[simp] theorem setResp_lfoValue : (s.setResp r).lfoValue = s.lfoValue := rfl
@[simp] theorem setResp_lfoInd : (s.setResp r).lfoInd = s.lfoInd := rfl
@[simp] theorem setResp_envPhase : (s.setResp r).envPhase = s.envPhase := rfl
@[simp] theorem setResp_envGate : (s.setResp r).envGate = s.envGate := rfl
@[simp] theorem setResp_period : (s.setResp r).period = s.period := rfl
@[simp] theorem setResp_count : (s.setResp r).count = s.count := rfl
@[simp] theorem setResp_out : (s.setResp r).out = s.out := rfl
@[simp] theorem setResp_noteOn : (s.setResp r).noteOn = s.noteOn := rfl
@[simp] theorem setResp_ext : (s.setResp r).ext = s.ext := rfl
@[simp] theorem setResp_lastNote : (s.setResp r).lastNote = s.lastNote := rfl
@[simp] theorem setResp_rangeErr : (s.setResp r).rangeErr = s.rangeErr := rfl
@[simp] theorem setResp_cmdErr : (s.setResp r).cmdErr = s.cmdErr := rfl
@[simp] theorem setResp_port : (s.setResp r).port = s.port := rfl
@[simp] theorem setResp_resp : (s.setResp r).resp = r := rfl

end

/-! ### setWsel -/

section

variable (w : BitVec 5)

@[simp] theorem setWsel_cfg : (s.setWsel w).cfg = s.cfg := rfl
@[simp] theorem setWsel_wsel : (s.setWsel w).wsel = w := rfl
@[simp] theorem setWsel_pattern : (s.setWsel w).pattern = s.pattern := rfl
@[simp] theorem setWsel_prngA : (s.setWsel w).prngA = s.prngA := rfl
@[simp] theorem setWsel_prngB : (s.setWsel w).prngB = s.prngB := rfl
@[simp] theorem setWsel_r4 : (s.setWsel w).r4 = s.r4 := rfl
@[simp] theorem setWsel_r5 : (s.setWsel w).r5 = s.r5 := rfl
@[simp] theorem setWsel_pitch : (s.setWsel w).pitch = s.pitch := rfl
@[simp] theorem setWsel_lfoFreq : (s.setWsel w).lfoFreq = s.lfoFreq := rfl
@[simp] theorem setWsel_lfoDepth : (s.setWsel w).lfoDepth = s.lfoDepth := rfl
@[simp] theorem setWsel_lfoWave : (s.setWsel w).lfoWave = s.lfoWave := rfl
@[simp] theorem setWsel_lfoDelta : (s.setWsel w).lfoDelta = s.lfoDelta := rfl
@[simp] theorem setWsel_envFreq : (s.setWsel w).envFreq = s.envFreq := rfl
@[simp] theorem setWsel_envWidth : (s.setWsel w).envWidth = s.envWidth := rfl
@[simp] theorem setWsel_lfoPhase : (s.setWsel w).lfoPhase = s.lfoPhase := rfl
@[simp] theorem setWsel_lfoValue : (s.setWsel w).lfoValue = s.lfoValue := rfl
@[simp] theorem setWsel_lfoInd : (s.setWsel w).lfoInd = s.lfoInd := rfl
@[simp] theorem setWsel_envPhase : (s.setWsel w).envPhase = s.envPhase := rfl
@[simp] theorem setWsel_envGate : (s.setWsel w).envGate = s.envGate := rfl
@[simp] theorem setWsel_period : (s.setWsel w).period = s.period := rfl
@[simp] theorem setWsel_count : (s.setWsel w).count = s.count := rfl
@[simp] theorem setWsel_out : (s.setWsel w).out = s.out := rfl
@[simp] theorem setWsel_noteOn : (s.setWsel w).noteOn = s.noteOn := rfl
@[simp] theorem setWsel_ext : (s.setWsel w).ext = s.ext := rfl
@[simp] theorem setWsel_lastNote : (s.setWsel w).lastNote = s.lastNote := rfl
@[simp] theorem setWsel_rangeErr : (s.setWsel w).rangeErr = s.rangeErr := rfl
@[simp] theorem setWsel_cmdErr : (s.setWsel w).cmdErr = s.cmdErr := rfl
@[simp] theorem setWsel_port : (s.setWsel w).port = s.port := rfl
@[simp] theorem setWsel_resp : (s.setWsel w).resp = s.resp := rfl

end

/-! ### setPattern -/

section

variable (p : BitVec 16)

@[simp] theorem setPattern_cfg : (s.setPattern p).cfg = s.cfg := rfl
@[simp] theorem setPattern_wsel : (s.setPattern p).wsel = s.wsel := rfl
@[simp] theorem setPattern_pattern : (s.setPattern p).pattern = p := rfl
@[simp] theorem setPattern_prngA : (s.setPattern p).prngA = s.prngA := rfl
@[simp] theorem setPattern_prngB : (s.setPattern p).prngB = s.prngB := rfl
@[simp] theorem setPattern_r4 : (s.setPattern p).r4 = s.r4 := rfl
@[simp] theorem setPattern_r5 : (s.setPattern p).r5 = s.r5 := rfl
@[simp] theorem setPattern_pitch : (s.setPattern p).pitch = s.pitch := rfl
@[simp] theorem setPattern_lfoFreq : (s.setPattern p).lfoFreq = s.lfoFreq := rfl
@[simp] theorem setPattern_lfoDepth : (s.setPattern p).lfoDepth = s.lfoDepth := rfl
@[simp] theorem setPattern_lfoWave : (s.setPattern p).lfoWave = s.lfoWave := rfl
@[simp] theorem setPattern_lfoDelta : (s.setPattern p).lfoDelta = s.lfoDelta := rfl
@[simp] theorem setPattern_envFreq : (s.setPattern p).envFreq = s.envFreq := rfl
@[simp] theorem setPattern_envWidth : (s.setPattern p).envWidth = s.envWidth := rfl
@[simp] theorem setPattern_lfoPhase : (s.setPattern p).lfoPhase = s.lfoPhase := rfl
@[simp] theorem setPattern_lfoValue : (s.setPattern p).lfoValue = s.lfoValue := rfl
@[simp] theorem setPattern_lfoInd : (s.setPattern p).lfoInd = s.lfoInd := rfl
@[simp] theorem setPattern_envPhase : (s.setPattern p).envPhase = s.envPhase := rfl
@[simp] theorem setPattern_envGate : (s.setPattern p).envGate = s.envGate := rfl
@[simp] theorem setPattern_period : (s.setPattern p).period = s.period := rfl
@[simp] theorem setPattern_count : (s.setPattern p).count = s.count := rfl
@[simp] theorem setPattern_out : (s.setPattern p).out = s.out := rfl
@[simp] theorem setPattern_noteOn : (s.setPattern p).noteOn = s.noteOn := rfl
@[simp] theorem setPattern_ext : (s.setPattern p).ext = s.ext := rfl
@[simp] theorem setPattern_lastNote : (s.setPattern p).lastNote = s.lastNote := rfl
@[simp] theorem setPattern_rangeErr : (s.setPattern p).rangeErr = s.rangeErr := rfl
@[simp] theorem setPattern_cmdErr : (s.setPattern p).cmdErr = s.cmdErr := rfl
@[simp] theorem setPattern_port : (s.setPattern p).port = s.port := rfl
@[simp] theorem setPattern_resp : (s.setPattern p).resp = s.resp := rfl

end

/-! ### setPrngA -/

section

variable (v : BitVec 16)

@[simp] theorem setPrngA_cfg : (s.setPrngA v).cfg = s.cfg := rfl
@[simp] theorem setPrngA_wsel : (s.setPrngA v).wsel = s.wsel := rfl
@[simp] theorem setPrngA_pattern : (s.setPrngA v).pattern = s.pattern := rfl
@[simp] theorem setPrngA_prngA : (s.setPrngA v).prngA = v := rfl
@[simp] theorem setPrngA_prngB : (s.setPrngA v).prngB = s.prngB := rfl
@[simp] theorem setPrngA_r4 : (s.setPrngA v).r4 = s.r4 := rfl
@[simp] theorem setPrngA_r5 : (s.setPrngA v).r5 = s.r5 := rfl
@[simp] theorem setPrngA_pitch : (s.setPrngA v).pitch = s.pitch := rfl
@[simp] theorem setPrngA_lfoFreq : (s.setPrngA v).lfoFreq = s.lfoFreq := rfl
@[simp] theorem setPrngA_lfoDepth : (s.setPrngA v).lfoDepth = s.lfoDepth := rfl
@[simp] theorem setPrngA_lfoWave : (s.setPrngA v).lfoWave = s.lfoWave := rfl
@[simp] theorem setPrngA_lfoDelta : (s.setPrngA v).lfoDelta = s.lfoDelta := rfl
@[simp] theorem setPrngA_envFreq : (s.setPrngA v).envFreq = s.envFreq := rfl
@[simp] theorem setPrngA_envWidth : (s.setPrngA v).envWidth = s.envWidth := rfl
@[simp] theorem setPrngA_lfoPhase : (s.setPrngA v).lfoPhase = s.lfoPhase := rfl
@[simp] theorem setPrngA_lfoValue : (s.setPrngA v).lfoValue = s.lfoValue := rfl
@[simp] theorem setPrngA_lfoInd : (s.setPrngA v).lfoInd = s.lfoInd := rfl
@[simp] theorem setPrngA_envPhase : (s.setPrngA v).envPhase = s.envPhase := rfl
@[simp] theorem setPrngA_envGate : (s.setPrngA v).envGate = s.envGate := rfl
@[simp] theorem setPrngA_period : (s.setPrngA v).period = s.period := rfl
@[simp] theorem setPrngA_count : (s.setPrngA v).count = s.count := rfl
@[simp] theorem setPrngA_out : (s.setPrngA v).out = s.out := rfl
@[simp] theorem setPrngA_noteOn : (s.setPrngA v).noteOn = s.noteOn := rfl
@[simp] theorem setPrngA_ext : (s.setPrngA v).ext = s.ext := rfl
@[simp] theorem setPrngA_lastNote : (s.setPrngA v).lastNote = s.lastNote := rfl
@[simp] theorem setPrngA_rangeErr : (s.setPrngA v).rangeErr = s.rangeErr := rfl
@[simp] theorem setPrngA_cmdErr : (s.setPrngA v).cmdErr = s.cmdErr := rfl
@[simp] theorem setPrngA_port : (s.setPrngA v).port = s.port := rfl
@[simp] theorem setPrngA_resp : (s.setPrngA v).resp = s.resp := rfl

end

/-! ### setPrngB -/

section

variable (v : BitVec 16)

@[simp] theorem setPrngB_cfg : (s.setPrngB v).cfg = s.cfg := rfl
@[simp] theorem setPrngB_wsel : (s.setPrngB v).wsel = s.wsel := rfl
@[simp] theorem setPrngB_pattern : (s.setPrngB v).pattern = s.pattern := rfl
@[simp] theorem setPrngB_prngA : (s.setPrngB v).prngA = s.prngA := rfl
@[simp] theorem setPrngB_prngB : (s.setPrngB v).prngB = v := rfl
@[simp] theorem setPrngB_r4 : (s.setPrngB v).r4 = s.r4 := rfl
@[simp] theorem setPrngB_r5 : (s.setPrngB v).r5 = s.r5 := rfl
@[simp] theorem setPrngB_pitch : (s.setPrngB v).pitch = s.pitch := rfl
@[simp] theorem setPrngB_lfoFreq : (s.setPrngB v).lfoFreq = s.lfoFreq := rfl
@[simp] theorem setPrngB_lfoDepth : (s.setPrngB v).lfoDepth = s.lfoDepth := rfl
@[simp] theorem setPrngB_lfoWave : (s.setPrngB v).lfoWave = s.lfoWave := rfl
@[simp] theorem setPrngB_lfoDelta : (s.setPrngB v).lfoDelta = s.lfoDelta := rfl
@[simp] theorem setPrngB_envFreq : (s.setPrngB v).envFreq = s.envFreq := rfl
@[simp] theorem setPrngB_envWidth : (s.setPrngB v).envWidth = s.envWidth := rfl
@[simp] theorem setPrngB_lfoPhase : (s.setPrngB v).lfoPhase = s.lfoPhase := rfl
@[simp] theorem setPrngB_lfoValue : (s.setPrngB v).lfoValue = s.lfoValue := rfl
@[simp] theorem setPrngB_lfoInd : (s.setPrngB v).lfoInd = s.lfoInd := rfl
@[simp] theorem setPrngB_envPhase : (s.setPrngB v).envPhase = s.envPhase := rfl
@[simp] theorem setPrngB_envGate : (s.setPrngB v).envGate = s.envGate := rfl
@[simp] theorem setPrngB_period : (s.setPrngB v).period = s.period := rfl
@[simp] theorem setPrngB_count : (s.setPrngB v).count = s.count := rfl
@[simp] theorem setPrngB_out : (s.setPrngB v).out = s.out := rfl
@[simp] theorem setPrngB_noteOn : (s.setPrngB v).noteOn = s.noteOn := rfl
@[simp] theorem setPrngB_ext : (s.setPrngB v).ext = s.ext := rfl
@[simp] theorem setPrngB_lastNote : (s.setPrngB v).lastNote = s.lastNote := rfl
@[simp] theorem setPrngB_rangeErr : (s.setPrngB v).rangeErr = s.rangeErr := rfl
@[simp] theorem setPrngB_cmdErr : (s.setPrngB v).cmdErr = s.cmdErr := rfl
@[simp] theorem setPrngB_port : (s.setPrngB v).port = s.port := rfl
@[simp] theorem setPrngB_resp : (s.setPrngB v).resp = s.resp := rfl

end

/-! ### setPoly -/

section

variable (a : BitVec 4) (b : BitVec 5)

@[simp] theorem setPoly_cfg : (s.setPoly a b).cfg = s.cfg := rfl
@[simp] theorem setPoly_wsel : (s.setPoly a b).wsel = s.wsel := rfl
@[simp] theorem setPoly_pattern : (s.setPoly a b).pattern = s.pattern := rfl
@[simp] theorem setPoly_prngA : (s.setPoly a b).prngA = s.prngA := rfl
@[simp] theorem setPoly_prngB : (s.setPoly a b).prngB = s.prngB := rfl
@[simp] theorem setPoly_r4 : (s.setPoly a b).r4 = a := rfl
@[simp] theorem setPoly_r5 : (s.setPoly a b).r5 = b := rfl
@[simp] theorem setPoly_pitch : (s.setPoly a b).pitch = s.pitch := rfl
@[simp] theorem setPoly_lfoFreq : (s.setPoly a b).lfoFreq = s.lfoFreq := rfl
@[simp] theorem setPoly_lfoDepth : (s.setPoly a b).lfoDepth = s.lfoDepth := rfl
@[simp] theorem setPoly_lfoWave : (s.setPoly a b).lfoWave = s.lfoWave := rfl
@[simp] theorem setPoly_lfoDelta : (s.setPoly a b).lfoDelta = s.lfoDelta := rfl
@[simp] theorem setPoly_envFreq : (s.setPoly a b).envFreq = s.envFreq := rfl
@[simp] theorem setPoly_envWidth : (s.setPoly a b).envWidth = s.envWidth := rfl
@[simp] theorem setPoly_lfoPhase : (s.setPoly a b).lfoPhase = s.lfoPhase := rfl
@[simp] theorem setPoly_lfoValue : (s.setPoly a b).lfoValue = s.lfoValue := rfl
@[simp] theorem setPoly_lfoInd : (s.setPoly a b).lfoInd = s.lfoInd := rfl
@[simp] theorem setPoly_envPhase : (s.setPoly a b).envPhase = s.envPhase := rfl
@[simp] theorem setPoly_envGate : (s.setPoly a b).envGate = s.envGate := rfl
@[simp] theorem setPoly_period : (s.setPoly a b).period = s.period := rfl
@[simp] theorem setPoly_count : (s.setPoly a b).count = s.count := rfl
@[simp] theorem setPoly_out : (s.setPoly a b).out = s.out := rfl
@[simp] theorem setPoly_noteOn : (s.setPoly a b).noteOn = s.noteOn := rfl
@[simp] theorem setPoly_ext : (s.setPoly a b).ext = s.ext := rfl
@[simp] theorem setPoly_lastNote : (s.setPoly a b).lastNote = s.lastNote := rfl
@[simp] theorem setPoly_rangeErr : (s.setPoly a b).rangeErr = s.rangeErr := rfl
@[simp] theorem setPoly_cmdErr : (s.setPoly a b).cmdErr = s.cmdErr := rfl
@[simp] theorem setPoly_port : (s.setPoly a b).port = s.port := rfl
@[simp] theorem setPoly_resp : (s.setPoly a b).resp = s.resp := rfl

end

/-! ### setPitch -/

section

variable (p : BitVec 16)

@[simp] theorem setPitch_cfg : (s.setPitch p).cfg = s.cfg := rfl
@[simp] theorem setPitch_wsel : (s.setPitch p).wsel = s.wsel := rfl
@[simp] theorem setPitch_pattern : (s.setPitch p).pattern = s.pattern := rfl
@[simp] theorem setPitch_prngA : (s.setPitch p).prngA = s.prngA := rfl
@[simp] theorem setPitch_prngB : (s.setPitch p).prngB = s.prngB := rfl
@[simp] theorem setPitch_r4 : (s.setPitch p).r4 = s.r4 := rfl
@[simp] theorem setPitch_r5 : (s.setPitch p).r5 = s.r5 := rfl
@[simp] theorem setPitch_pitch : (s.setPitch p).pitch = p := rfl
@[simp] theorem setPitch_lfoFreq : (s.setPitch p).lfoFreq = s.lfoFreq := rfl
@[simp] theorem setPitch_lfoDepth : (s.setPitch p).lfoDepth = s.lfoDepth := rfl
@[simp] theorem setPitch_lfoWave : (s.setPitch p).lfoWave = s.lfoWave := rfl
@[simp] theorem setPitch_lfoDelta : (s.setPitch p).lfoDelta = s.lfoDelta := rfl
@[simp] theorem setPitch_envFreq : (s.setPitch p).envFreq = s.envFreq := rfl
@[simp] theorem setPitch_envWidth : (s.setPitch p).envWidth = s.envWidth := rfl
@[simp] theorem setPitch_lfoPhase : (s.setPitch p).lfoPhase = s.lfoPhase := rfl
@[simp] theorem setPitch_lfoValue : (s.setPitch p).lfoValue = s.lfoValue := rfl
@[simp] theorem setPitch_lfoInd : (s.setPitch p).lfoInd = s.lfoInd := rfl
@[simp] theorem setPitch_envPhase : (s.setPitch p).envPhase = s.envPhase := rfl
@[simp] theorem setPitch_envGate : (s.setPitch p).envGate = s.envGate := rfl
@[simp] theorem setPitch_period : (s.setPitch p).period = s.period := rfl
@[simp] theorem setPitch_count : (s.setPitch p).count = s.count := rfl
@[simp] theorem setPitch_out : (s.setPitch p).out = s.out := rfl
@[simp] theorem setPitch_noteOn : (s.setPitch p).noteOn = s.noteOn := rfl
@[simp] theorem setPitch_ext : (s.setPitch p).ext = s.ext := rfl
@[simp] theorem setPitch_lastNote : (s.setPitch p).lastNote = s.lastNote := rfl
@[simp] theorem setPitch_rangeErr : (s.setPitch p).rangeErr = s.rangeErr := rfl
@[simp] theorem setPitch_cmdErr : (s.setPitch p).cmdErr = s.cmdErr := rfl
@[simp] theorem setPitch_port : (s.setPitch p).port = s.port := rfl
@[simp] theorem setPitch_resp : (s.setPitch p).resp = s.resp := rfl

end

/-! ### setLfoParams -/

section

variable (f d : BitVec 8) (w : BitVec 3) (dl : BitVec 16)

@[simp] theorem setLfoParams_cfg : (s.setLfoParams f d w dl).cfg = s.cfg := rfl
@[simp] theorem setLfoParams_wsel : (s.setLfoParams f d w dl).wsel = s.wsel := rfl
@[simp] theorem setLfoParams_pattern : (s.setLfoParams f d w dl).pattern = s.pattern := rfl
@[simp] theorem setLfoParams_prngA : (s.setLfoParams f d w dl).prngA = s.prngA := rfl
@[simp] theorem setLfoParams_prngB : (s.setLfoParams f d w dl).prngB = s.prngB := rfl
@[simp] theorem setLfoParams_r4 : (s.setLfoParams f d w dl).r4 = s.r4 := rfl
@[simp] theorem setLfoParams_r5 : (s.setLfoParams f d w dl).r5 = s.r5 := rfl
@[simp] theorem setLfoParams_pitch : (s.setLfoParams f d w dl).pitch = s.pitch := rfl
@[simp] theorem setLfoParams_lfoFreq : (s.setLfoParams f d w dl).lfoFreq = f := rfl
@[simp] theorem setLfoParams_lfoDepth : (s.setLfoParams f d w dl).lfoDepth = d := rfl
@[simp] theorem setLfoParams_lfoWave : (s.setLfoParams f d w dl).lfoWave = w := rfl
@[simp] theorem setLfoParams_lfoDelta : (s.setLfoParams f d w dl).lfoDelta = dl := rfl
@[simp] theorem setLfoParams_envFreq : (s.setLfoParams f d w dl).envFreq = s.envFreq := rfl
@[simp] theorem setLfoParams_envWidth : (s.setLfoParams f d w dl).envWidth = s.envWidth := rfl
@[simp] theorem setLfoParams_lfoPhase : (s.setLfoParams f d w dl).lfoPhase = s.lfoPhase := rfl
@[simp] theorem setLfoParams_lfoValue : (s.setLfoParams f d w dl).lfoValue = s.lfoValue := rfl
@[simp] theorem setLfoParams_lfoInd : (s.setLfoParams f d w dl).lfoInd = s.lfoInd := rfl
@[simp] theorem setLfoParams_envPhase : (s.setLfoParams f d w dl).envPhase = s.envPhase := rfl
@[simp] theorem setLfoParams_envGate : (s.setLfoParams f d w dl).envGate = s.envGate := rfl
@[simp] theorem setLfoParams_period : (s.setLfoParams f d w dl).period = s.period := rfl
@[simp] theorem setLfoParams_count : (s.setLfoParams f d w dl).count = s.count := rfl
@[simp] theorem setLfoParams_out : (s.setLfoParams f d w dl).out = s.out := rfl
@[simp] theorem setLfoParams_noteOn : (s.setLfoParams f d w dl).noteOn = s.noteOn := rfl
@[simp] theorem setLfoParams_ext : (s.setLfoParams f d w dl).ext = s.ext := rfl
@[simp] theorem setLfoParams_lastNote : (s.setLfoParams f d w dl).lastNote = s.lastNote := rfl
@[simp] theorem setLfoParams_rangeErr : (s.setLfoParams f d w dl).rangeErr = s.rangeErr := rfl
@[simp] theorem setLfoParams_cmdErr : (s.setLfoParams f d w dl).cmdErr = s.cmdErr := rfl
@[simp] theorem setLfoParams_port : (s.setLfoParams f d w dl).port = s.port := rfl
@[simp] theorem setLfoParams_resp : (s.setLfoParams f d w dl).resp = s.resp := rfl

end

/-! ### setLfoEngine -/

section

variable (p v : BitVec 8) (i : Bool)

@[simp] theorem setLfoEngine_cfg : (s.setLfoEngine p v i).cfg = s.cfg := rfl
@[simp] theorem setLfoEngine_wsel : (s.setLfoEngine p v i).wsel = s.wsel := rfl
@[simp] theorem setLfoEngine_pattern : (s.setLfoEngine p v i).pattern = s.pattern := rfl
@[simp] theorem setLfoEngine_prngA : (s.setLfoEngine p v i).prngA = s.prngA := rfl
@[simp] theorem setLfoEngine_prngB : (s.setLfoEngine p v i).prngB = s.prngB := rfl
@[simp] theorem setLfoEngine_r4 : (s.setLfoEngine p v i).r4 = s.r4 := rfl
@[simp] theorem setLfoEngine_r5 : (s.setLfoEngine p v i).r5 = s.r5 := rfl
@[simp] theorem setLfoEngine_pitch : (s.setLfoEngine p v i).pitch = s.pitch := rfl
@[simp] theorem setLfoEngine_lfoFreq : (s.setLfoEngine p v i).lfoFreq = s.lfoFreq := rfl
@[simp] theorem setLfoEngine_lfoDepth : (s.setLfoEngine p v i).lfoDepth = s.lfoDepth := rfl
@[simp] theorem setLfoEngine_lfoWave : (s.setLfoEngine p v i).lfoWave = s.lfoWave := rfl
@[simp] theorem setLfoEngine_lfoDelta : (s.setLfoEngine p v i).lfoDelta = s.lfoDelta := rfl
@[simp] theorem setLfoEngine_envFreq : (s.setLfoEngine p v i).envFreq = s.envFreq := rfl
@[simp] theorem setLfoEngine_envWidth : (s.setLfoEngine p v i).envWidth = s.envWidth := rfl
@[simp] theorem setLfoEngine_lfoPhase : (s.setLfoEngine p v i).lfoPhase = p := rfl
@[simp] theorem setLfoEngine_lfoValue : (s.setLfoEngine p v i).lfoValue = v := rfl
@[simp] theorem setLfoEngine_lfoInd : (s.setLfoEngine p v i).lfoInd = i := rfl
@[simp] theorem setLfoEngine_envPhase : (s.setLfoEngine p v i).envPhase = s.envPhase := rfl
@[simp] theorem setLfoEngine_envGate : (s.setLfoEngine p v i).envGate = s.envGate := rfl
@[simp] theorem setLfoEngine_period : (s.setLfoEngine p v i).period = s.period := rfl
@[simp] theorem setLfoEngine_count : (s.setLfoEngine p v i).count = s.count := rfl
@[simp] theorem setLfoEngine_out : (s.setLfoEngine p v i).out = s.out := rfl
@[simp] theorem setLfoEngine_noteOn : (s.setLfoEngine p v i).noteOn = s.noteOn := rfl
@[simp] theorem setLfoEngine_ext : (s.setLfoEngine p v i).ext = s.ext := rfl
@[simp] theorem setLfoEngine_lastNote : (s.setLfoEngine p v i).lastNote = s.lastNote := rfl
@[simp] theorem setLfoEngine_rangeErr : (s.setLfoEngine p v i).rangeErr = s.rangeErr := rfl
@[simp] theorem setLfoEngine_cmdErr : (s.setLfoEngine p v i).cmdErr = s.cmdErr := rfl
@[simp] theorem setLfoEngine_port : (s.setLfoEngine p v i).port = s.port := rfl
@[simp] theorem setLfoEngine_resp : (s.setLfoEngine p v i).resp = s.resp := rfl

end

/-! ### setEnvParams -/

section

variable (f w : BitVec 8)

@[simp] theorem setEnvParams_cfg : (s.setEnvParams f w).cfg = s.cfg := rfl
@[simp] theorem setEnvParams_wsel : (s.setEnvParams f w).wsel = s.wsel := rfl
@[simp] theorem setEnvParams_pattern : (s.setEnvParams f w).pattern = s.pattern := rfl
@[simp] theorem setEnvParams_prngA : (s.setEnvParams f w).prngA = s.prngA := rfl
@[simp] theorem setEnvParams_prngB : (s.setEnvParams f w).prngB = s.prngB := rfl
@[simp] theorem setEnvParams_r4 : (s.setEnvParams f w).r4 = s.r4 := rfl
@[simp] theorem setEnvParams_r5 : (s.setEnvParams f w).r5 = s.r5 := rfl
@[simp] theorem setEnvParams_pitch : (s.setEnvParams f w).pitch = s.pitch := rfl
@[simp] theorem setEnvParams_lfoFreq : (s.setEnvParams f w).lfoFreq = s.lfoFreq := rfl
@[simp] theorem setEnvParams_lfoDepth : (s.setEnvParams f w).lfoDepth = s.lfoDepth := rfl
@[simp] theorem setEnvParams_lfoWave : (s.setEnvParams f w).lfoWave = s.lfoWave := rfl
@[simp] theorem setEnvParams_lfoDelta : (s.setEnvParams f w).lfoDelta = s.lfoDelta := rfl
@[simp] theorem setEnvParams_envFreq : (s.setEnvParams f w).envFreq = f := rfl
@[simp] theorem setEnvParams_envWidth : (s.setEnvParams f w).envWidth = w := rfl
@[simp] theorem setEnvParams_lfoPhase : (s.setEnvParams f w).lfoPhase = s.lfoPhase := rfl
@[simp] theorem setEnvParams_lfoValue : (s.setEnvParams f w).lfoValue = s.lfoValue := rfl
@[simp] theorem setEnvParams_lfoInd : (s.setEnvParams f w).lfoInd = s.lfoInd := rfl
@[simp] theorem setEnvParams_envPhase : (s.setEnvParams f w).envPhase = s.envPhase := rfl
@[simp] theorem setEnvParams_envGate : (s.setEnvParams f w).envGate = s.envGate := rfl
@[simp] theorem setEnvParams_period : (s.setEnvParams f w).period = s.period := rfl
@[simp] theorem setEnvParams_count : (s.setEnvParams f w).count = s.count := rfl
@[simp] theorem setEnvParams_out : (s.setEnvParams f w).out = s.out := rfl
@[simp] theorem setEnvParams_noteOn : (s.setEnvParams f w).noteOn = s.noteOn := rfl
@[simp] theorem setEnvParams_ext : (s.setEnvParams f w).ext = s.ext := rfl
@[simp] theorem setEnvParams_lastNote : (s.setEnvParams f w).lastNote = s.lastNote := rfl
@[simp] theorem setEnvParams_rangeErr : (s.setEnvParams f w).rangeErr = s.rangeErr := rfl
@[simp] theorem setEnvParams_cmdErr : (s.setEnvParams f w).cmdErr = s.cmdErr := rfl
@[simp] theorem setEnvParams_port : (s.setEnvParams f w).port = s.port := rfl
@[simp] theorem setEnvParams_resp : (s.setEnvParams f w).resp = s.resp := rfl

end

/-! ### setEnvEngine -/

section

variable (p : BitVec 8) (g : Bool)

@[simp] theorem setEnvEngine_cfg : (s.setEnvEngine p g).cfg = s.cfg := rfl
@[simp] theorem setEnvEngine_wsel : (s.setEnvEngine p g).wsel = s.wsel := rfl
@[simp] theorem setEnvEngine_pattern : (s.setEnvEngine p g).pattern = s.pattern := rfl
@[simp] theorem setEnvEngine_prngA : (s.setEnvEngine p g).prngA = s.prngA := rfl
@[simp] theorem setEnvEngine_prngB : (s.setEnvEngine p g).prngB = s.prngB := rfl
@[simp] theorem setEnvEngine_r4 : (s.setEnvEngine p g).r4 = s.r4 := rfl
@[simp] theorem setEnvEngine_r5 : (s.setEnvEngine p g).r5 = s.r5 := rfl
@[simp] theorem setEnvEngine_pitch : (s.setEnvEngine p g).pitch = s.pitch := rfl
@[simp] theorem setEnvEngine_lfoFreq : (s.setEnvEngine p g).lfoFreq = s.lfoFreq := rfl
@[simp] theorem setEnvEngine_lfoDepth : (s.setEnvEngine p g).lfoDepth = s.lfoDepth := rfl
@[simp] theorem setEnvEngine_lfoWave : (s.setEnvEngine p g).lfoWave = s.lfoWave := rfl
@[simp] theorem setEnvEngine_lfoDelta : (s.setEnvEngine p g).lfoDelta = s.lfoDelta := rfl
@[simp] theorem setEnvEngine_envFreq : (s.setEnvEngine p g).envFreq = s.envFreq := rfl
@[simp] theorem setEnvEngine_envWidth : (s.setEnvEngine p g).envWidth = s.envWidth := rfl
@[simp] theorem setEnvEngine_lfoPhase : (s.setEnvEngine p g).lfoPhase = s.lfoPhase := rfl
@[simp] theorem setEnvEngine_lfoValue : (s.setEnvEngine p g).lfoValue = s.lfoValue := rfl
@[simp] theorem setEnvEngine_lfoInd : (s.setEnvEngine p g).lfoInd = s.lfoInd := rfl
@[simp] theorem setEnvEngine_envPhase : (s.setEnvEngine p g).envPhase = p := rfl
@[simp] theorem setEnvEngine_envGate : (s.setEnvEngine p g).envGate = g := rfl
@[simp] theorem setEnvEngine_period : (s.setEnvEngine p g).period = s.period := rfl
@[simp] theorem setEnvEngine_count : (s.setEnvEngine p g).count = s.count := rfl
@[simp] theorem setEnvEngine_out : (s.setEnvEngine p g).out = s.out := rfl
@[simp] theorem setEnvEngine_noteOn : (s.setEnvEngine p g).noteOn = s.noteOn := rfl
@[simp] theorem setEnvEngine_ext : (s.setEnvEngine p g).ext = s.ext := rfl
@[simp] theorem setEnvEngine_lastNote : (s.setEnvEngine p g).lastNote = s.lastNote := rfl
@[simp] theorem setEnvEngine_rangeErr : (s.setEnvEngine p g).rangeErr = s.rangeErr := rfl
@[simp] theorem setEnvEngine_cmdErr : (s.setEnvEngine p g).cmdErr = s.cmdErr := rfl
@[simp] theorem setEnvEngine_port : (s.setEnvEngine p g).port = s.port := rfl
@[simp] theorem setEnvEngine_resp : (s.setEnvEngine p g).resp = s.resp := rfl

end

/-! ### setClock -/

section

variable (p c : BitVec 16)

@[simp] theorem setClock_cfg : (s.setClock p c).cfg = s.cfg := rfl
@[simp] theorem setClock_wsel : (s.setClock p c).wsel = s.wsel := rfl
@[simp] theorem setClock_pattern : (s.setClock p c).pattern = s.pattern := rfl
@[simp] theorem setClock_prngA : (s.setClock p c).prngA = s.prngA := rfl
@[simp] theorem setClock_prngB : (s.setClock p c).prngB = s.prngB := rfl
@[simp] theorem setClock_r4 : (s.setClock p c).r4 = s.r4 := rfl
@[simp] theorem setClock_r5 : (s.setClock p c).r5 = s.r5 := rfl
@[simp] theorem setClock_pitch : (s.setClock p c).pitch = s.pitch := rfl
@[simp] theorem setClock_lfoFreq : (s.setClock p c).lfoFreq = s.lfoFreq := rfl
@[simp] theorem setClock_lfoDepth : (s.setClock p c).lfoDepth = s.lfoDepth := rfl
@[simp] theorem setClock_lfoWave : (s.setClock p c).lfoWave = s.lfoWave := rfl
@[simp] theorem setClock_lfoDelta : (s.setClock p c).lfoDelta = s.lfoDelta := rfl
@[simp] theorem setClock_envFreq : (s.setClock p c).envFreq = s.envFreq := rfl
@[simp] theorem setClock_envWidth : (s.setClock p c).envWidth = s.envWidth := rfl
@[simp] theorem setClock_lfoPhase : (s.setClock p c).lfoPhase = s.lfoPhase := rfl
@[simp] theorem setClock_lfoValue : (s.setClock p c).lfoValue = s.lfoValue := rfl
@[simp] theorem setClock_lfoInd : (s.setClock p c).lfoInd = s.lfoInd := rfl
@[simp] theorem setClock_envPhase : (s.setClock p c).envPhase = s.envPhase := rfl
@[simp] theorem setClock_envGate : (s.setClock p c).envGate = s.envGate := rfl
@[simp] theorem setClock_period : (s.setClock p c).period = p := rfl
@[simp] theorem setClock_count : (s.setClock p c).count = c := rfl
@[simp] theorem setClock_out : (s.setClock p c).out = s.out := rfl
@[simp] theorem setClock_noteOn : (s.setClock p c).noteOn = s.noteOn := rfl
@[simp] theorem setClock_ext : (s.setClock p c).ext = s.ext := rfl
@[simp] theorem setClock_lastNote : (s.setClock p c).lastNote = s.lastNote := rfl
@[simp] theorem setClock_rangeErr : (s.setClock p c).rangeErr = s.rangeErr := rfl
@[simp] theorem setClock_cmdErr : (s.setClock p c).cmdErr = s.cmdErr := rfl
@[simp] theorem setClock_port : (s.setClock p c).port = s.port := rfl
@[simp] theorem setClock_resp : (s.setClock p c).resp = s.resp := rfl

end

/-! ### setOut -/

section

variable (b : Bool)

@[simp] theorem setOut_cfg : (s.setOut b).cfg = s.cfg := rfl
@[simp] theorem setOut_wsel : (s.setOut b).wsel = s.wsel := rfl
@[simp] theorem setOut_pattern : (s.setOut b).pattern = s.pattern := rfl
@[simp] theorem setOut_prngA : (s.setOut b).prngA = s.prngA := rfl
@[simp] theorem setOut_prngB : (s.setOut b).prngB = s.prngB := rfl
@[simp] theorem setOut_r4 : (s.setOut b).r4 = s.r4 := rfl
@[simp] theorem setOut_r5 : (s.setOut b).r5 = s.r5 := rfl
@[simp] theorem setOut_pitch : (s.setOut b).pitch = s.pitch := rfl
@[simp] theorem setOut_lfoFreq : (s.setOut b).lfoFreq = s.lfoFreq := rfl
@[simp] theorem setOut_lfoDepth : (s.setOut b).lfoDepth = s.lfoDepth := rfl
@[simp] theorem setOut_lfoWave : (s.setOut b).lfoWave = s.lfoWave := rfl
@[simp] theorem setOut_lfoDelta : (s.setOut b).lfoDelta = s.lfoDelta := rfl
@[simp] theorem setOut_envFreq : (s.setOut b).envFreq = s.envFreq := rfl
@[simp] theorem setOut_envWidth : (s.setOut b).envWidth = s.envWidth := rfl
@[simp] theorem setOut_lfoPhase : (s.setOut b).lfoPhase = s.lfoPhase := rfl
@[simp] theorem setOut_lfoValue : (s.setOut b).lfoValue = s.lfoValue := rfl
@[simp] theorem setOut_lfoInd : (s.setOut b).lfoInd = s.lfoInd := rfl
@[simp] theorem setOut_envPhase : (s.setOut b).envPhase = s.envPhase := rfl
@[simp] theorem setOut_envGate : (s.setOut b).envGate = s.envGate := rfl
@[simp] theorem setOut_period : (s.setOut b).period = s.period := rfl
@[simp] theorem setOut_count : (s.setOut b).count = s.count := rfl
@[simp] theorem setOut_out : (s.setOut b).out = b := rfl
@[simp] theorem setOut_noteOn : (s.setOut b).noteOn = s.noteOn := rfl
@[simp] theorem setOut_ext : (s.setOut b).ext = s.ext := rfl
@[simp] theorem setOut_lastNote : (s.setOut b).lastNote = s.lastNote := rfl
@[simp] theorem setOut_rangeErr : (s.setOut b).rangeErr = s.rangeErr := rfl
@[simp] theorem setOut_cmdErr : (s.setOut b).cmdErr = s.cmdErr := rfl
@[simp] theorem setOut_port : (s.setOut b).port = s.port := rfl
@[simp] theorem setOut_resp : (s.setOut b).resp = s.resp := rfl

end

/-! ### setNote -/

section

variable (on e : Bool) (n : BitVec 7)

@[simp] theorem setNote_cfg : (s.setNote on e n).cfg = s.cfg := rfl
@[simp] theorem setNote_wsel : (s.setNote on e n).wsel = s.wsel := rfl
@[simp] theorem setNote_pattern : (s.setNote on e n).pattern = s.pattern := rfl
@[simp] theorem setNote_prngA : (s.setNote on e n).prngA = s.prngA := rfl
@[simp] theorem setNote_prngB : (s.setNote on e n).prngB = s.prngB := rfl
@[simp] theorem setNote_r4 : (s.setNote on e n).r4 = s.r4 := rfl
@[simp] theorem setNote_r5 : (s.setNote on e n).r5 = s.r5 := rfl
@[simp] theorem setNote_pitch : (s.setNote on e n).pitch = s.pitch := rfl
@[simp] theorem setNote_lfoFreq : (s.setNote on e n).lfoFreq = s.lfoFreq := rfl
@[simp] theorem setNote_lfoDepth : (s.setNote on e n).lfoDepth = s.lfoDepth := rfl
@[simp] theorem setNote_lfoWave : (s.setNote on e n).lfoWave = s.lfoWave := rfl
@[simp] theorem setNote_lfoDelta : (s.setNote on e n).lfoDelta = s.lfoDelta := rfl
@[simp] theorem setNote_envFreq : (s.setNote on e n).envFreq = s.envFreq := rfl
@[simp] theorem setNote_envWidth : (s.setNote on e n).envWidth = s.envWidth := rfl
@[simp] theorem setNote_lfoPhase : (s.setNote on e n).lfoPhase = s.lfoPhase := rfl
@[simp] theorem setNote_lfoValue : (s.setNote on e n).lfoValue = s.lfoValue := rfl
@[simp] theorem setNote_lfoInd : (s.setNote on e n).lfoInd = s.lfoInd := rfl
@[simp] theorem setNote_envPhase : (s.setNote on e n).envPhase = s.envPhase := rfl
@[simp] theorem setNote_envGate : (s.setNote on e n).envGate = s.envGate := rfl
@[simp] theorem setNote_period : (s.setNote on e n).period = s.period := rfl
@[simp] theorem setNote_count : (s.setNote on e n).count = s.count := rfl
@[simp] theorem setNote_out : (s.setNote on e n).out = s.out := rfl
@[simp] theorem setNote_noteOn : (s.setNote on e n).noteOn = on := rfl
@[simp] theorem setNote_ext : (s.setNote on e n).ext = e := rfl
@[simp] theorem setNote_lastNote : (s.setNote on e n).lastNote = n := rfl
@[simp] theorem setNote_rangeErr : (s.setNote on e n).rangeErr = s.rangeErr := rfl
@[simp] theorem setNote_cmdErr : (s.setNote on e n).cmdErr = s.cmdErr := rfl
@[simp] theorem setNote_port : (s.setNote on e n).port = s.port := rfl
@[simp] theorem setNote_resp : (s.setNote on e n).resp = s.resp := rfl

end

/-! ### setErrors -/

section

variable (r c : Bool)

@[simp] theorem setErrors_cfg : (s.setErrors r c).cfg = s.cfg := rfl
@[simp] theorem setErrors_wsel : (s.setErrors r c).wsel = s.wsel := rfl
@[simp] theorem setErrors_pattern : (s.setErrors r c).pattern = s.pattern := rfl
@[simp] theorem setErrors_prngA : (s.setErrors r c).prngA = s.prngA := rfl
@[simp] theorem setErrors_prngB : (s.setErrors r c).prngB = s.prngB := rfl
@[simp] theorem setErrors_r4 : (s.setErrors r c).r4 = s.r4 := rfl
@[simp] theorem setErrors_r5 : (s.setErrors r c).r5 = s.r5 := rfl
@[simp] theorem setErrors_pitch : (s.setErrors r c).pitch = s.pitch := rfl
@[simp] theorem setErrors_lfoFreq : (s.setErrors r c).lfoFreq = s.lfoFreq := rfl
@[simp] theorem setErrors_lfoDepth : (s.setErrors r c).lfoDepth = s.lfoDepth := rfl
@[simp] theorem setErrors_lfoWave : (s.setErrors r c).lfoWave = s.lfoWave := rfl
@[simp] theorem setErrors_lfoDelta : (s.setErrors r c).lfoDelta = s.lfoDelta := rfl
@[simp] theorem setErrors_envFreq : (s.setErrors r c).envFreq = s.envFreq := rfl
@[simp] theorem setErrors_envWidth : (s.setErrors r c).envWidth = s.envWidth := rfl
@[simp] theorem setErrors_lfoPhase : (s.setErrors r c).lfoPhase = s.lfoPhase := rfl
@[simp] theorem setErrors_lfoValue : (s.setErrors r c).lfoValue = s.lfoValue := rfl
@[simp] theorem setErrors_lfoInd : (s.setErrors r c).lfoInd = s.lfoInd := rfl
@[simp] theorem setErrors_envPhase : (s.setErrors r c).envPhase = s.envPhase := rfl
@[simp] theorem setErrors_envGate : (s.setErrors r c).envGate = s.envGate := rfl
@[simp] theorem setErrors_period : (s.setErrors r c).period = s.period := rfl
@[simp] theorem setErrors_count : (s.setErrors r c).count = s.count := rfl
@[simp] theorem setErrors_out : (s.setErrors r c).out = s.out := rfl
@[simp] theorem setErrors_noteOn : (s.setErrors r c).noteOn = s.noteOn := rfl
@[simp] theorem setErrors_ext : (s.setErrors r c).ext = s.ext := rfl
@[simp] theorem setErrors_lastNote : (s.setErrors r c).lastNote = s.lastNote := rfl
@[simp] theorem setErrors_rangeErr : (s.setErrors r c).rangeErr = r := rfl
@[simp] theorem setErrors_cmdErr : (s.setErrors r c).cmdErr = c := rfl
@[simp] theorem setErrors_port : (s.setErrors r c).port = s.port := rfl
@[simp] theorem setErrors_resp : (s.setErrors r c).resp = s.resp := rfl

end

/-! ### Updates that meet -/

@[simp] theorem setResp_setResp (r q : BitVec 16) : (s.setResp r).setResp q = s.setResp q := rfl

@[simp] theorem setPort_setPort (ws vs : List Word) : (s.setPort ws).setPort vs = s.setPort vs := rfl

end Sys2Proof.Machine.State
end

