-- ==== Sys2Proof/Laws/Ops.lean ====
section
/-! SUPPORT. For each shared operation, one lemma that says once everything it can do. Later proofs cite
these and the field lemmas of Laws/State.lean instead of unfolding the operations. -/

namespace Sys2Proof.Machine

variable {s t : State}

/-! ### Ending a command -/

@[simp] theorem respond_eq_setResp (r : BitVec 16) (s : State) : respond r s = s.setResp r := rfl

@[simp] theorem reject_eq_set (s : State) : reject s = (s.setErrors s.rangeErr true).setResp 0 := rfl

/-! ### The generators -/

theorem readPrngB_of_shared (h : s.cfg.prngShared = true) : readPrngB s = s.prngA := by
  simp [readPrngB, h]

theorem readPrngB_of_not_shared (h : s.cfg.prngShared = false) : readPrngB s = s.prngB := by
  simp [readPrngB, h]

/-- A write of PRNG_B writes one of the two fields, the other keeping its value. -/
theorem writePrngB_cases (v : BitVec 16) (s : State) :
    (s.cfg.prngShared = true ∧ writePrngB v s = s.setPrngA v) ∨
      (s.cfg.prngShared = false ∧ writePrngB v s = s.setPrngB v) := by
  cases h : s.cfg.prngShared <;> simp [writePrngB, h]

/-! ### Source selection and the audio tick -/

/-- `nextBit` answers in three ways, one for each class it is defined for. -/
theorem nextBit_cases {x : Bool} (h : nextBit s = .ok (x, t)) :
    (wselClass s.wsel = .pattern ∧ x = s.pattern.getLsbD 0 ∧
        t = s.setPattern (rotateRight1 s.pattern)) ∨
      (wselClass s.wsel = .noise ∧ x = (prngNext s.prngA).getLsbD 0 ∧
        t = s.setPrngA (prngNext s.prngA)) ∨
      (wselClass s.wsel = .poly ∧ (x, t) = polyStep (wselIdx s.wsel) s) := by
  unfold nextBit at h
  split at h
  · rename_i hc
    cases h
    exact .inl ⟨hc, rfl, rfl⟩
  · rename_i hc
    cases h
    exact .inr (.inl ⟨hc, rfl, rfl⟩)
  · rename_i hc
    cases h
    exact .inr (.inr ⟨hc, rfl⟩)
  · cases h

/-- `audioTick` is `nextBit` with OUT driven by the raw bit and the two gates. -/
theorem audioTick_cases {x : Bool} (h : audioTick s = .ok (x, t)) :
    ∃ u, nextBit s = .ok (x, u) ∧ t = u.setOut (x && u.envGate && u.noteOn) := by
  unfold audioTick at h
  split at h
  · rename_i y u hn
    cases h
    exact ⟨u, hn, rfl⟩
  · cases h

/-- A waveform bit can be taken in every class but the reserved one. -/
theorem nextBit_defined (h : wselClass s.wsel ≠ .reserved) : ∃ x t, nextBit s = .ok (x, t) := by
  unfold nextBit
  split
  · exact ⟨_, _, rfl⟩
  · exact ⟨_, _, rfl⟩
  · exact ⟨_, _, rfl⟩
  · contradiction

/-- What a waveform bit changes: PATTERN, PRNG_A, R4 and R5 at most. -/
theorem nextBit_frame {x : Bool} (h : nextBit s = .ok (x, t)) :
    ∃ p v a b, t = ((s.setPattern p).setPrngA v).setPoly a b := by
  obtain ⟨-, -, rfl⟩ | ⟨-, -, rfl⟩ | ⟨-, hp⟩ := nextBit_cases h
  · exact ⟨rotateRight1 s.pattern, s.prngA, s.r4, s.r5, rfl⟩
  · exact ⟨s.pattern, prngNext s.prngA, s.r4, s.r5, rfl⟩
  · cases hp
    exact ⟨s.pattern, s.prngA, _, _, rfl⟩

/-- What an audio tick changes: OUT and one of the sources. -/
theorem audioTick_frame {x : Bool} (h : audioTick s = .ok (x, t)) :
    ∃ p v a b, t = (((s.setPattern p).setPrngA v).setPoly a b).setOut (x && s.envGate && s.noteOn) := by
  obtain ⟨u, hu, rfl⟩ := audioTick_cases h
  obtain ⟨p, v, a, b, rfl⟩ := nextBit_frame hu
  exact ⟨p, v, a, b, rfl⟩

/-! ### The LFO -/

/-- The fields the LFO writes, all at once. -/
def State.setLfoAll (a b : BitVec 16) (p v : BitVec 8) (i : Bool) (s : State) : State :=
  ((s.setPrngA a).setPrngB b).setLfoEngine p v i

/-- `lfoWave` writes LFO_VALUE, and steps one generator exactly where the random waveform draws. -/
theorem lfoWave_spec (p : Nat) (s : State) :
    ∃ a b v, lfoWave p s = s.setLfoAll a b s.lfoPhase v s.lfoInd ∧
      ((a = s.prngA ∧ b = s.prngB) ∨
        (waveformOf s.lfoWave = .random ∧ p = 0 ∧
          ((s.cfg.prngShared = true ∧ a = prngNext s.prngA ∧ b = s.prngB) ∨
            (s.cfg.prngShared = false ∧ a = s.prngA ∧ b = prngNext s.prngB)))) := by
  unfold lfoWave
  split
  case h_8 hw =>
    unfold lfoRandom
    split
    · rename_i hp
      cases hs : s.cfg.prngShared
      · refine ⟨s.prngA, prngNext s.prngB,
          BitVec.ofNat 8 (drawLevel (prngNext s.prngB) s.lfoDepth.toNat), ?_, .inr ⟨hw, hp, .inr ⟨rfl, rfl, rfl⟩⟩⟩
        simp only [writePrngB, readPrngB, hs, Bool.false_eq_true, if_false]
        rfl
      · refine ⟨prngNext s.prngA, s.prngB,
          BitVec.ofNat 8 (drawLevel (prngNext s.prngA) s.lfoDepth.toNat), ?_, .inr ⟨hw, hp, .inl ⟨rfl, rfl, rfl⟩⟩⟩
        simp only [writePrngB, readPrngB, hs, if_true]
        rfl
    · exact ⟨s.prngA, s.prngB, s.lfoValue, rfl, .inl ⟨rfl, rfl⟩⟩
  all_goals exact ⟨s.prngA, s.prngB, _, rfl, .inl ⟨rfl, rfl⟩⟩

/-- `lfoStep` changes LFO_PHASE, LFO_VALUE, LFO_IND and at most one step of one generator. -/
theorem lfoStep_spec (s : State) :
    ∃ a b p v i, lfoStep s = s.setLfoAll a b p v i ∧
      ((a = s.prngA ∧ b = s.prngB) ∨
        (s.cfg.prngShared = true ∧ a = prngNext s.prngA ∧ b = s.prngB) ∨
        (s.cfg.prngShared = false ∧ a = s.prngA ∧ b = prngNext s.prngB)) := by
  unfold lfoStep
  split
  · exact ⟨s.prngA, s.prngB, _, _, _, rfl, .inl ⟨rfl, rfl⟩⟩
  · obtain ⟨a, b, v, hw, hab⟩ := lfoWave_spec (phaseUsed s.lfoFreq s.lfoPhase) s
    refine ⟨a, b, phaseNext s.lfoFreq (phaseUsed s.lfoFreq s.lfoPhase), v,
      decide (phaseUsed s.lfoFreq s.lfoPhase < s.lfoFreq.toNat / 2), ?_, ?_⟩
    · show lfoAdvance _ (lfoWave _ s) = _
      rw [hw]
      rfl
    · rcases hab with h | ⟨-, -, h⟩
      · exact .inl h
      · exact .inr h

/-! ### The envelope -/

/-- `envStep` changes ENV_PHASE and ENV_GATE only. -/
theorem envStep_spec (s : State) : ∃ p g, envStep s = s.setEnvEngine p g := by
  unfold envStep
  split
  · exact ⟨_, _, rfl⟩
  · exact ⟨_, _, rfl⟩

/-! ### The pitch resolver -/

/-- `resolvePitch` writes PERIOD, COUNT and RANGE_ERR only (R162); the new COUNT is 0 exactly where the
period changes to a value below COUNT. -/
theorem resolvePitch_spec (s : State) :
    resolvePitch s =
      (s.setErrors (s.rangeErr || outOfRange (exactPeriod s)) s.cmdErr).setClock
        (wrapPeriod (exactPeriod s))
        (if wrapPeriod (exactPeriod s) ≠ s.period ∧
            (wrapPeriod (exactPeriod s)).toNat < s.count.toNat then 0 else s.count) := by
  unfold resolvePitch programPeriod
  by_cases h : wrapPeriod (exactPeriod s) = s.period
  · simp only [State.setErrors_period, h, if_true, ne_eq, not_true_eq_false, false_and, if_false]
    rfl
  · simp only [State.setErrors_period, State.setErrors_count, h, if_false, ne_eq, not_false_eq_true,
      true_and]
    congr 1

/-! ### The register map -/

/-- A read is refused exactly at the reserved addresses. -/
theorem regAt_eq_none_iff (a : BitVec 8) : regAt a = none ↔ 0x11 < a.toNat := by
  revert a
  decide

/-- The register at an address has that address. -/
theorem regAddr_of_regAt {a : BitVec 8} {r : Reg} (h : regAt a = some r) : regAddr r = a := by
  revert a r
  decide

/-- Each register is found at its address. -/
theorem regAt_regAddr (r : Reg) : regAt (regAddr r) = some r := by cases r <;> rfl

/-- `wselWrite` refuses the reserved class, keeps the state where the selection is the same, and
otherwise selects. -/
theorem wselWrite_cases {d : BitVec 16} (h : wselWrite d s = some t) :
    wselClass (d.extractLsb' 0 5) ≠ .reserved ∧
      ((d.extractLsb' 0 5 = s.wsel ∧ t = s) ∨
        (d.extractLsb' 0 5 ≠ s.wsel ∧ t = selectSource (d.extractLsb' 0 5) s)) := by
  unfold wselWrite at h
  simp only at h
  split at h
  · cases h
  · rename_i hc
    split at h
    · rename_i he
      cases h
      exact ⟨hc, .inl ⟨he, rfl⟩⟩
    · rename_i he
      cases h
      exact ⟨hc, .inr ⟨he, rfl⟩⟩

/-- A selection changes WSEL and at most PATTERN. -/
theorem selectSource_spec (n : BitVec 5) (s : State) :
    ∃ p, selectSource n s = (s.setWsel n).setPattern p := by
  unfold selectSource
  split
  · exact ⟨_, rfl⟩
  · exact ⟨s.pattern, rfl⟩

/-- A write that is not refused writes one of the eight writable registers. -/
theorem writeReg_cases {r : Reg} {d : BitVec 16} (h : writeReg r d s = some t) :
    (r = .wsel ∧ wselWrite d s = some t) ∨ (r = .pitch ∧ t = pitchWrite d s) ∨
      (r = .lfoFreq ∧ t = lfoFreqWrite d s) ∨ (r = .lfoDepth ∧ t = lfoDepthWrite d s) ∨
      (r = .lfoWave ∧ t = lfoWaveWrite d s) ∨ (r = .envFreq ∧ t = envFreqWrite d s) ∨
      (r = .envWidth ∧ t = envWidthWrite d s) ∨ (r = .status ∧ t = statusWrite d s) := by
  cases r <;> simp only [writeReg, Option.some.injEq, reduceCtorEq] at h <;> simp [h]

/-- A write to an address that is not refused is a write to the register there. -/
theorem writeAddr_cases {a : BitVec 8} {d : BitVec 16} (h : writeAddr a d s = some t) :
    ∃ r, a = regAddr r ∧ writeReg r d s = some t := by
  unfold writeAddr at h
  split at h
  · rename_i r hr
    exact ⟨r, (regAddr_of_regAt hr).symm, h⟩
  · cases h

end Sys2Proof.Machine
end

