-- ==== Sys2Proof/Laws/PerInstr.lean ====
section
/-! SUPPORT. Statements made for each command apart. The family `EncodeFollowsRow`: the word of a
command is selected by the command's row of the match and mask table (R84). -/

namespace Sys2Proof.Laws.EncodeFollowsRow

/-- The word a command encodes to is selected by its row of R84. -/
def Statement (i : Instr) : Prop := i.row.selects (encode i) = true

/-- Masking a word masks each of its fields. -/
theorem and_cmdWord (op a op' a' : BitVec 8) (d d' : BitVec 16) :
    cmdWord op a d &&& cmdWord op' a' d' = cmdWord (op &&& op') (a &&& a') (d &&& d') := by
  apply BitVec.eq_of_getLsbD_eq
  intro k hk
  simp only [cmdWord, BitVec.getLsbD_and, BitVec.getLsbD_append]
  split <;> [skip; split] <;> rfl

/-- A command follows its row if each field does. -/
theorem of_fields {i : Instr} {op a : BitVec 8} {d : BitVec 16}
    (hm : i.row.mask = cmdWord op a d)
    (hp : i.row.pattern = cmdWord (i.opcode &&& op) (i.addr &&& a) (i.data &&& d)) :
    Statement i := by
  simp only [Statement, MatchRow.selects, encode, hm, hp, and_cmdWord, beq_self_eq_true]

theorem nop : Statement .nop := rfl

theorem wrreg (a : BitVec 8) (d : BitVec 16) : Statement (.wrreg a d) := by
  refine of_fields (op := 0xFF#8) (a := 0#8) (d := 0#16) rfl ?_
  simp only [Instr.row, Instr.opcode, Instr.addr, Instr.data, BitVec.and_zero]
  decide

theorem rdreg (a : BitVec 8) : Statement (.rdreg a) := by
  refine of_fields (op := 0xFF#8) (a := 0#8) (d := 0xFFFF#16) rfl ?_
  simp only [Instr.row, Instr.opcode, Instr.addr, Instr.data, BitVec.and_zero]
  decide

theorem poly (idx : BitVec 3) : Statement (.poly idx) := by
  have h : ∀ n : BitVec 3, n.setWidth 16 &&& 0xFFF8#16 = 0 := by decide
  refine of_fields (op := 0xFF#8) (a := 0xFF#8) (d := 0xFFF8#16) rfl ?_
  simp only [Instr.row, Instr.opcode, Instr.addr, Instr.data, h]
  decide

theorem noise : Statement .noise := rfl

theorem patstep : Statement .patstep := rfl

theorem tclk : Statement .tclk := rfl

theorem atick : Statement .atick := rfl

theorem lfostep : Statement .lfostep := rfl

theorem envstep : Statement .envstep := rfl

theorem resolve : Statement .resolve := rfl

theorem ctick : Statement .ctick := rfl

/-- A note index keeps clear of the upper nine bits of D. -/
theorem note_masked (n : BitVec 7) : n.setWidth 16 &&& 0xFF80#16 = 0 := by
  apply BitVec.eq_of_getLsbD_eq
  intro k hk
  interval_cases k <;> simp

theorem noteon (note : BitVec 7) : Statement (.noteon note) := by
  refine of_fields (op := 0xFF#8) (a := 0xFF#8) (d := 0xFF80#16) rfl ?_
  simp only [Instr.row, Instr.opcode, Instr.addr, Instr.data, note_masked]
  decide

theorem noteoff (note : BitVec 7) : Statement (.noteoff note) := by
  refine of_fields (op := 0xFF#8) (a := 0xFF#8) (d := 0xFF80#16) rfl ?_
  simp only [Instr.row, Instr.opcode, Instr.addr, Instr.data, note_masked]
  decide

theorem stop : Statement .stop := rfl

end Sys2Proof.Laws.EncodeFollowsRow
end

