-- ==== Sys2Proof/Laws/Step.lean ====
section
/-! SUPPORT. What a step can do, said once; later proofs about steps and runs start from it. -/

namespace Sys2Proof.Machine

variable {s t : State}

/-- A step that answers a next state idled, performed a command, or rejected an ILLEGAL word. -/
theorem step_cases (h : step s = .next t) :
    (s.port = [] ∧ t = s) ∨
      ∃ w ws, s.port = w :: ws ∧
        ((∃ i, decode w = .ok i ∧ exec i (s.setPort ws) = .next t) ∨
          ∃ e, decode w = .error e ∧ t = reject (s.setPort ws)) := by
  cases hp : s.port with
  | nil =>
    simp only [step, takeWord, hp] at h
    cases h
    exact .inl ⟨rfl, rfl⟩
  | cons w ws =>
    simp only [step, takeWord, hp] at h
    refine .inr ⟨w, ws, rfl, ?_⟩
    split at h
    · rename_i i hi
      exact .inl ⟨i, hi, h⟩
    · rename_i e he
      cases h
      exact .inr ⟨e, he, rfl⟩

/-- What holds at the start of a run and is kept by every step, whatever the environment presents
between steps, holds of every state the run reaches. -/
theorem reaches_induction {P : State → Prop} (hr : Reaches s t) (h0 : P s)
    (hport : ∀ ws u, P u → P (u.setPort ws)) (hstep : ∀ u v, P u → step u = .next v → P v) : P t := by
  induction hr with
  | start => exact h0
  | present ws _ ih => exact hport _ _ ih
  | step _ hs ih => exact hstep _ _ ih hs

end Sys2Proof.Machine
end

