-- ==== Sys2Proof/Tests/Slice0.lean ====
section
/-! SUPPORT. The model's own tests. Expected values are those of spec/95_test_vectors.md (the section is
named at each test) or words written out from the pattern strings of 30_encoding.md R85. The theorems
`witness_…` show, for each statement with hypotheses, concrete data that meets them. -/

namespace Sys2Proof.Tests

open Sys2Proof.Machine

/-! ## Test configuration and helpers -/

/-- Test configuration TC1 (95_test_vectors.md section 0). -/
def tc1 : Config where
  patternTable := #v[0x00FF, 0x0F0F, 0x3333, 0x5555, 0x0001, 0x000F, 0x7FFF, 0xF00F]
  notePeriod := ⟨((List.range 128).map fun i =>
    if i = 69 then 440 else BitVec.ofNat 16 (1000 + i)).toArray, by simp⟩
  prngASeed := 0x0001
  prngBSeed := 0x0001
  prngShared := false
  poly4Seed := 0b1111
  poly5Seed := 0b11111
  polyRules := Config.defaultPolyRules
  timerClockHz := 0

/-- The reset state under TC1. -/
def s0 : State := State.resetWith tc1

/-- What `f` reads from a next state. -/
def seen {α : Type} (f : State → α) : Answer → Option α
  | .next t => some (f t)
  | .fault _ => none
  | .refused _ => none

/-- The fault an answer stops with. -/
def stoppedBy : Answer → Option Fault
  | .next _ => none
  | .fault e => some e
  | .refused _ => none

/-- The state after one command, for tests that need a second command. -/
def after (i : Instr) (s : State) : State := (seen id (exec i s)).getD s

/-! ## Well-formedness: one ill-formed command for each check -/

theorem test_address_256_refused : (SourceCmd.rdreg 256).wellFormed = false := by decide
theorem test_write_address_256_refused : (SourceCmd.wrreg 256 0).toInstr = none := by decide
theorem test_data_65536_refused : (SourceCmd.wrreg 0 65536).toInstr = none := by decide
theorem test_index_8_refused : (SourceCmd.poly 8).toInstr = none := by decide
theorem test_noteon_128_refused : (SourceCmd.noteon 128).toInstr = none := by decide
theorem test_noteoff_128_refused : (SourceCmd.noteoff 128).toInstr = none := by decide
theorem test_largest_operands_accepted :
    (SourceCmd.wrreg 255 65535).toInstr = some (.wrreg 0xFF 0xFFFF) := by decide

/-! ## Decoding: each constructor from its pattern string (R85) -/

theorem test_decode_nop : decode 0b00000000_00000000_0000000000000000#32 = .ok .nop := by decide
theorem test_decode_wrreg :
    decode 0b00000001_00001100_1000000000000001#32 = .ok (.wrreg 0x0C 0x8001) := by decide
theorem test_decode_rdreg :
    decode 0b00000010_10000001_0000000000000000#32 = .ok (.rdreg 0x81) := by decide
theorem test_decode_poly :
    decode 0b00010000_00000000_0000000000000110#32 = .ok (.poly 6) := by decide
theorem test_decode_noise : decode 0b00010001_00000000_0000000000000000#32 = .ok .noise := by decide
theorem test_decode_patstep :
    decode 0b00010010_00000000_0000000000000000#32 = .ok .patstep := by decide
theorem test_decode_tclk : decode 0b00100000_00000000_0000000000000000#32 = .ok .tclk := by decide
theorem test_decode_atick : decode 0b00100001_00000000_0000000000000000#32 = .ok .atick := by decide
theorem test_decode_lfostep :
    decode 0b00110000_00000000_0000000000000000#32 = .ok .lfostep := by decide
theorem test_decode_envstep :
    decode 0b00110001_00000000_0000000000000000#32 = .ok .envstep := by decide
theorem test_decode_resolve :
    decode 0b00110010_00000000_0000000000000000#32 = .ok .resolve := by decide
theorem test_decode_ctick : decode 0b00110011_00000000_0000000000000000#32 = .ok .ctick := by decide
theorem test_decode_noteon :
    decode 0b01000000_00000000_0000000001000001#32 = .ok (.noteon 65) := by decide
theorem test_decode_noteoff :
    decode 0b01000001_00000000_0000000001111110#32 = .ok (.noteoff 126) := by decide
theorem test_decode_stop : decode 0b01000010_00000000_0000000000000000#32 = .ok .stop := by decide

/-- The ILLEGAL words of 95_test_vectors.md section 2.1. -/
theorem test_illegal_words_refused :
    decode 0x00000001 = .error .nonzeroD ∧ decode 0x00010000 = .error .nonzeroA ∧
    decode 0x0200FFFF = .error .nonzeroD ∧ decode 0x10000008 = .error .nonzeroD ∧
    decode 0x10010000 = .error .nonzeroA ∧ decode 0x11000001 = .error .nonzeroD ∧
    decode 0x40000080 = .error .nonzeroD ∧ decode 0x43000000 = .error .undefinedOp ∧
    decode 0xFF000000 = .error .undefinedOp := by decide

/-- Words of the programs P1 to P4 (95_test_vectors.md section 3). -/
theorem test_encode_program_words :
    encode (.wrreg 0x05 100) = 0x01050064 ∧ encode (.rdreg 0x0A) = 0x020A0000 ∧
    encode (.noteon 69) = 0x40000045 ∧ encode (.noteoff 60) = 0x4100003C ∧
    encode .ctick = 0x33000000 ∧ encode .stop = 0x42000000 := by decide

/-! ## Steps -/

/-- 95 section 2.1, row 0x43000000: an ILLEGAL word sets CMD_ERR and answers 0. -/
theorem test_illegal_word_rejects :
    seen (fun t => (statusWord t, t.resp, t.port)) (step (s0.withFetchWord 32 0x43000000)) =
      some (0x0045, 0, []) := by decide

/-- 95 section 2.1, row 0x02010000: the fetched word runs. -/
theorem test_step_reads_pattern :
    seen (fun t => (t.resp, t.port)) (step (s0.withFetchWord 32 0x02010000)) =
      some (0x00FF, []) := by decide

/-- R62: the order of one cycle's inputs, all present. -/
theorem test_cycle_order :
    (presentCycle ⟨some (.write 0x05 5), some (.noteOn 69), true, true⟩ s0).port =
      [0x01050005, 0x40000045, 0x33000000, 0x20000000] := by decide

/-! ## Instructions -/

theorem test_nop : seen (fun t => (statusWord t, t.resp)) (exec .nop s0) = some (0x0005, 0) := by decide

/-- 95 section 2.1, row 0x0100FFE5. -/
theorem test_wrreg_wsel :
    seen (fun t => (t.wsel, t.pattern)) (exec (.wrreg 0x00 0xFFE5) s0) = some (0b00101, 0x000F) := by
  decide

/-- 95 section 2.1: (F, D) = (3, 10) gives LFO_DELTA = 853. -/
theorem test_wrreg_lfo_delta :
    seen (fun t => t.lfoDelta) (exec (.wrreg 0x07 10) (after (.wrreg 0x06 3) s0)) = some 853 := by
  decide

/-- 95 section 0: RDREG STATUS and RDREG POLY at reset. -/
theorem test_rdreg_status : seen (fun t => t.resp) (exec (.rdreg 0x10) s0) = some 0x0005 := by decide
theorem test_rdreg_poly : seen (fun t => t.resp) (exec (.rdreg 0x04) s0) = some 0x01FF := by decide

/-- 95 section 2.3, column (3, 14): coupling condition A on the advanced R5. -/
theorem test_poly_1_coupled :
    seen (fun t => (t.r4, t.r5, t.resp)) (exec (.poly 1) (s0.setPoly 0x3 0x14)) =
      some (0x6, 0x08, 0) := by decide

/-- 95 section 2.3, column (3, 14): the joint 9-bit shift. -/
theorem test_poly_6_joint :
    seen (fun t => (t.r4, t.r5, t.resp)) (exec (.poly 6) (s0.setPoly 0x3 0x14)) =
      some (0x7, 0x09, 0) := by decide

/-- V5: prng_next(0xACE1) = 0xE270. -/
theorem test_noise :
    seen (fun t => (t.prngA, t.prngB, t.resp)) (exec .noise (s0.setPrngA 0xACE1)) =
      some (0xE270, 0x0001, 0) := by decide

/-- 95 section 2.2. -/
theorem test_patstep :
    seen (fun t => (t.pattern, t.resp)) (exec .patstep s0) = some (0x807F, 1) := by decide

/-- 95 section 2.4: PERIOD = 0 fires at once; PERIOD = 200 counts. -/
theorem test_tclk_fires :
    seen (fun t => (t.pattern, t.count, t.resp)) (exec .tclk (s0.setClock 0 0)) =
      some (0x807F, 0, 3) := by decide
theorem test_tclk_counts :
    seen (fun t => (t.pattern, t.count, t.resp)) (exec .tclk s0) = some (0x00FF, 1, 0) := by decide

/-- 95 section 2.4: the gate mutes OUT, and the source moves all the same. -/
theorem test_atick_muted :
    seen (fun t => (t.pattern, t.out, t.resp)) (exec .atick (s0.setEnvEngine 0 false)) =
      some (0x807F, false, 2) := by decide

/-- 95 section 2.5: F = 3, D = 10, triangle, phase 1 saturates to 10. -/
theorem test_lfostep_saturates :
    seen (fun t => (t.lfoValue, t.lfoPhase, t.lfoInd))
      (exec .lfostep ((s0.setLfoParams 3 10 0 853).setLfoEngine 1 0 true)) = some (10, 2, false) := by
  decide

/-- 95 section 2.5: the random draw at phase 0 (0xB400 mod 7 = 6). -/
theorem test_lfostep_random :
    seen (fun t => (t.lfoValue, t.prngB, t.prngA)) (exec .lfostep (s0.setLfoParams 4 7 7 448)) =
      some (6, 0xB400, 0x0001) := by decide

/-- 95 section 2.6: E = 5, W = 2, phases 3 and 4 are closed and the phase wraps. -/
theorem test_envstep :
    seen (fun t => (t.envGate, t.envPhase))
      (exec .envstep ((s0.setEnvParams 5 2).setEnvEngine 4 false)) = some (false, 0) := by decide

/-- V1 and 95 section 2.7. -/
theorem test_resolve :
    seen (fun t => (t.period, t.rangeErr)) (exec .resolve (s0.setPitch 400)) =
      some (1800, false) := by decide
theorem test_resolve_out_of_range :
    seen (fun t => (t.period, t.rangeErr))
      (exec .resolve ((s0.setLfoEngine 0 60 false).setPitch 0)) = some (65496, true) := by decide

/-- P3, the second CTICK: LFO value 5, period 580. -/
theorem test_ctick :
    seen (fun t => (t.resp, t.lfoValue, t.envGate)) (exec .ctick
      ((((s0.setPitch 100).setLfoParams 4 10 0 640).setLfoEngine 1 0 true).setEnvParams 4 1)) =
      some (580, 5, true) := by decide

/-- 95 section 2.8. -/
theorem test_noteon :
    seen (fun t => (statusWord t, t.pitch, t.lastNote)) (exec (.noteon 69) s0) =
      some (0x0007, 440, 69) := by decide
theorem test_noteoff_of_last_note :
    seen (fun t => statusWord t) (exec (.noteoff 0) s0) = some 0x0006 := by decide
theorem test_noteoff_of_other_note :
    seen (fun t => t.noteOn) (exec (.noteoff 60) (after (.noteon 69) s0)) = some true := by decide
theorem test_stop :
    seen (fun t => (t.noteOn, t.ext, t.pitch)) (exec .stop s0) = some (false, true, 0) := by decide

/-! ## Assembly text -/

theorem test_assemble_wrreg :
    assembleLine "  WRREG LFO_FREQ, 0x04 ; comment".toList = some [.wrreg 0x06 4] := by decide
theorem test_assemble_pseudo :
    assembleLine "SETLFO 4,10,0".toList =
      some [.wrreg 0x06 4, .wrreg 0x07 10, .wrreg 0x08 0] := by decide
theorem test_assemble_refuses_wide_index : assembleLine "POLY 8".toList = none := by decide

/-! ## Witnesses: command words -/

theorem witness_EncodeOfDecodeIsTheWord : decode 0x41000045#32 = .ok (.noteoff 69) := by decide

theorem witness_DecodeFollowsTheMatchAndMaskTable :
    (Instr.wrreg 0 0).row.selects 0x01FFFFFF = true ∧
    (Instr.wrreg 0xFF 0xFFFF).row.selects 0x01FFFFFF = true := by decide

theorem witness_OperandsAreTheirFields :
    decode 0x01FFFFFF#32 = .ok (.wrreg 0xFF 0xFFFF) ∧ decode 0x02FF0000#32 = .ok (.rdreg 0xFF) ∧
    decode 0x10000007#32 = .ok (.poly 7) ∧ decode 0x4000007F#32 = .ok (.noteon 127) ∧
    decode 0x4100007F#32 = .ok (.noteoff 127) := by decide

theorem witness_IllegalWordsAreTheThreeCasesAndReject :
    decode 0x10000008#32 = .error .nonzeroD ∧
    (presentFirst 0x10000008 s0).port = 0x10000008#32 :: [] := by decide

theorem witness_AssemblerRefusesOperandsThatDoNotFit :
    (SourceCmd.wrreg 255 65535).toInstr = some (.wrreg 0xFF 0xFFFF) ∧
    (SourceCmd.wrreg 256 65535).toInstr = none ∧ (SourceCmd.wrreg 255 65536).toInstr = none ∧
    (SourceCmd.rdreg 255).toInstr ≠ none ∧ (SourceCmd.poly 7).toInstr ≠ none ∧
    (SourceCmd.noteon 127).toInstr ≠ none ∧ (SourceCmd.noteoff 127).toInstr ≠ none := by decide

theorem witness_PseudoInstructionsExpand : (7 : Nat) ≤ 7 := by decide

/-! ## Witnesses: steps -/

theorem witness_StepPerformsTheDecodedCommand :
    (presentFirst 0x12000000 s0).port = 0x12000000#32 :: [] ∧
    decode 0x12000000#32 = .ok .patstep := by decide

theorem witness_StepWithoutACommandKeepsTheState : s0.port = [] := by decide

/-- The invariant holds in the test state. -/
theorem s0_inv : StateInv s0 := ⟨by decide, by decide, by decide, by decide, by decide⟩

theorem witness_InputsOfOneCycleRunInOrder : StateInv s0 ∧ s0.port = [] := ⟨s0_inv, rfl⟩

/-- A cycle with all four inputs, one with a note event and TCLK alone, and one with none. -/
theorem witness_InputsOfOneCycleRunInOrder_cycles :
    (cycleCommands ⟨some (.write 0x05 5), some (.noteOn 69), true, true⟩).length = 4 ∧
    (cycleCommands ⟨none, some .stop, false, true⟩).length = 2 ∧
    (cycleCommands ⟨none, none, false, false⟩).length = 0 := by decide

theorem witness_ResetLeavesTheTabulatedValues : powerOn tc1 = .next s0 := rfl

/-- A configuration with a zero seed, for each of the four seeds. -/
theorem witness_PowerOnRefusesZeroSeeds :
    ({ tc1 with prngASeed := 0 } : Config).prngASeed = 0 ∧
    ({ tc1 with prngBSeed := 0 } : Config).prngBSeed = 0 ∧
    ({ tc1 with poly4Seed := 0 } : Config).poly4Seed = 0 ∧
    ({ tc1 with poly5Seed := 0 } : Config).poly5Seed = 0 ∧
    ¬(tc1.prngASeed = 0 ∨ tc1.prngBSeed = 0 ∨ tc1.poly4Seed = 0 ∨ tc1.poly5Seed = 0) := by decide

theorem witness_ResetMeetsTheInvariant : tc1.valid = true := by decide

theorem witness_StepKeepsTheInvariant :
    StateInv s0 ∧ step s0 = .next s0 := ⟨s0_inv, rfl⟩

theorem witness_RunsFromPowerOnNeverStop :
    powerOn tc1 = .next s0 ∧
    Reaches s0 { s0 with pattern := 0x807F, resp := 1, port := [0x20000000] } :=
  ⟨rfl, .step (.present [0x12000000, 0x20000000] .start) rfl⟩

theorem witness_CountNeverPassesPeriod :
    powerOn tc1 = .next s0 ∧ Reaches s0 { s0 with count := 1 } :=
  ⟨rfl, .step (.present [0x20000000] .start) rfl⟩

/-! ## Witnesses: whole-machine rules -/

/-- One command for each group of registers that it changes. -/
theorem witness_RegistersHaveFixedWriters :
    exec (.wrreg 0x00 5) s0 = .next { s0 with wsel := 5, pattern := 0x000F } ∧
    exec .noise s0 = .next { s0 with prngA := 0xB400 } ∧
    exec .lfostep (s0.setLfoParams 1 7 7 1792) =
      .next { s0.setLfoParams 1 7 7 1792 with prngB := 0xB400, lfoValue := 6, resp := 6 } ∧
    exec (.poly 0) s0 = .next { s0 with r4 := 0xE, resp := 1 } ∧
    exec (.wrreg 0x06 1) s0 = .next { s0 with lfoFreq := 1 } ∧
    exec (.wrreg 0x0B 1) s0 = .next { s0 with envFreq := 1 } ∧
    exec .resolve (s0.setPitch 16334) =
      .next { s0.setPitch 16334 with period := 0, rangeErr := true } ∧
    exec .atick s0 = .next { s0 with pattern := 0x807F, out := true, resp := 3 } ∧
    exec (.noteoff 0) s0 = .next { s0 with noteOn := false, ext := true } ∧
    exec (.rdreg 0x12) s0 = .next { s0 with cmdErr := true } :=
  ⟨rfl, rfl, rfl, rfl, rfl, rfl, rfl, rfl, rfl, rfl⟩

/-- The registers that the theorem above leaves out. -/
theorem witness_RegistersHaveFixedWriters_rest :
    exec (.wrreg 0x05 7) s0 = .next { s0 with pitch := 7 } ∧
    exec (.wrreg 0x06 8) (s0.setLfoParams 0 64 0 0) =
      .next { s0.setLfoParams 0 64 0 0 with lfoFreq := 8, lfoDelta := 2048 } ∧
    exec (.wrreg 0x07 1) s0 = .next { s0 with lfoDepth := 1 } ∧
    exec (.wrreg 0x08 7) s0 = .next { s0 with lfoWave := 7 } ∧
    exec (.wrreg 0x0C 3) s0 = .next { s0 with envWidth := 3 } ∧
    exec .envstep (s0.setEnvParams 5 2) =
      .next { s0.setEnvParams 5 2 with envPhase := 1, envGate := true, resp := 1 } ∧
    exec .tclk s0 = .next { s0 with count := 1 } ∧
    exec (.noteon 69) s0 = .next { s0 with ext := true, lastNote := 69, pitch := 440 } ∧
    exec (.wrreg 0x10 0x60) (s0.setErrors true true) = .next (s0.setErrors false false) :=
  ⟨rfl, rfl, rfl, rfl, rfl, rfl, rfl, rfl, rfl⟩

theorem witness_NoteEventsSetExtAndNothingClearsIt :
    (s0.setNote true true 0).ext = true ∧
    step (s0.setNote true true 0) = .next (s0.setNote true true 0) := ⟨rfl, rfl⟩

/-- The state before and after a WRREG STATUS that clears both flags. -/
theorem witness_ErrorFlagsClearOnlyByStatusWrites :
    step (presentFirst 0x01100060 (s0.setErrors true true)) = .next (s0.setErrors false false) ∧
    (s0.setErrors true true).rangeErr = true ∧ (s0.setErrors true true).cmdErr = true :=
  ⟨rfl, rfl, rfl⟩

theorem witness_AudioOutChangesOnlyInAudioTicks :
    step (presentFirst 0x20000000 (s0.setClock 0 0)) =
      .next { s0.setClock 0 0 with pattern := 0x807F, out := true, resp := 3 } ∧
    audioOut { s0.setClock 0 0 with pattern := 0x807F, out := true, resp := 3 } ≠ audioOut s0 :=
  ⟨rfl, by decide⟩

/-- The first and last refused addresses and the two ends of the reserved class. -/
theorem witness_CommandsRefusedByValue :
    0x12 ≤ (0x12#8).toNat ∧ 0x12 ≤ (0xFF#8).toNat ∧
    (0x11#8).toNat ∈ [0x01, 0x02, 0x03, 0x04, 0x09, 0x0A, 0x0D, 0x0E, 0x0F, 0x11] ∧
    (0x18#16).toNat % 32 / 8 = 3 ∧ (0xFFFF#16).toNat % 32 / 8 = 3 ∧
    seen (fun t => t.cmdErr) (exec (.wrreg 0x12 0) s0) = some true ∧ s0.cmdErr = false := by decide

/-! ## Witnesses: host commands -/

theorem witness_NopChangesNothing :
    (0x00000001#32).toNat / 16777216 = 0 ∧ 0x00000001#32 ≠ 0 ∧
    (0x00FFFFFF#32).toNat / 16777216 = 0 ∧ (presentFirst 1 s0).port = 0x00000001#32 :: [] := by decide

/-- WSEL is 0: data 0x18 and 0x1F are reserved, 0x20 is the same value, 7 is a pattern, 8 and 0x17 are
the other classes. -/
theorem witness_WselWriteSelectsAndReloads :
    (0x18#16).toNat % 32 / 8 = 3 ∧ (0x1F#16).toNat % 32 / 8 = 3 ∧
    ((0x20#16).toNat % 32 / 8 ≠ 3 ∧ (0x20#16).toNat % 32 = s0.wsel.toNat) ∧
    ((0x07#16).toNat % 32 ≠ s0.wsel.toNat ∧ (0x07#16).toNat % 32 / 8 = 0) ∧
    ((0x08#16).toNat % 32 ≠ s0.wsel.toNat ∧ (0x08#16).toNat % 32 / 8 = 1) ∧
    ((0x17#16).toNat % 32 ≠ s0.wsel.toNat ∧ (0x17#16).toNat % 32 / 8 = 2) := by decide

theorem witness_PitchWriteIsDroppedUnderExt :
    s0.ext = false ∧ (s0.setNote true true 0).ext = true := by decide

/-! ## Witnesses: bit sources -/

theorem witness_PatstepRotatesThePattern :
    (s0.setPort (List.replicate 16 0x12000000)).port =
      List.replicate 16 0x12000000#32 ++ [] := by decide

theorem witness_NoiseStepsTheGenerator : 0xB400 = prngNext s0.prngA := by decide

theorem witness_GeneratorHasFullPeriod :
    (0x0001#16) ≠ 0 ∧ (0 < 65534 ∧ 65534 < 65535) := by decide

theorem witness_TapFunctionsAreMaximalLength :
    (0x1#4) ≠ 0 ∧ (0x1#5) ≠ 0 ∧ (0 < 14 ∧ 14 < 15) ∧ (0 < 30 ∧ 30 < 31) := by decide

theorem witness_PolyAppliesTheRuleOfItsIndex :
    polyRuleNext (s0.cfg.polyRules.get (Fin.ofNat 8 (7#3).toNat)) s0.r4 s0.r5 = (0xF, 0x1E) := by
  decide

/-- The default rules, and both outcomes of both coupling conditions. -/
theorem witness_FirstSixPolyRules :
    s0.cfg.polyRules = Config.defaultPolyRules ∧
    (t5 (s0.setPoly 3 0x14).r5).toNat % 16 = 8 ∧ (t5 s0.r5).toNat % 16 ≠ 8 ∧
    16 ≤ (t5 s0.r5).toNat ∧ (t5 (s0.setPoly 3 0x14).r5).toNat < 16 := by decide

theorem witness_PolyNineShiftsOneNineBitRegister :
    s0.cfg.polyRules = Config.defaultPolyRules ∧ ((0, 1) : BitVec 4 × BitVec 5) ≠ (0, 0) ∧
    (0 < 510 ∧ 510 < 511) := by decide

theorem witness_PolyFiveIsADelayLine :
    s0.cfg.polyRules = Config.defaultPolyRules ∧ 4 ≤ 4 ∧ 3 < 4 ∧ 0 < 1 := by decide

theorem witness_CoupledTapRulesHavePeriod465 :
    (PolyRule.tap5CondBTap4 = .tap5CondATap4 ∨ PolyRule.tap5CondBTap4 = .tap5CondBTap4) ∧
    (0 < 464 ∧ 464 < 465) := by decide

theorem witness_PolyLockUp :
    PolyRule.tap4 ∈ [PolyRule.tap4, .tap5CondATap4, .tap5CondBTap4] ∧
    PolyRule.poly5 ∈ [PolyRule.tap5CondATap4, .tap5CondBTap4, .tap5CondADiv2, .tap5CondBDiv2, .poly5] ∧
    (PolyRule.div2, 1) ∈ [(PolyRule.div2, 1), (.tap5CondADiv2, 3), (.tap5CondBDiv2, 1), (.poly9, 9),
      (.poly5, 22)] ∧ 4 < 5 := by decide

/-! ## Witnesses: the audio sample clock -/

/-- The ends of the three classes, with the gate open. -/
theorem witness_AtickTakesOneBitAndGatesIt :
    (s0.wsel.toNat / 8 = 0 ∧ true = (s0.pattern.getLsbD 0 && s0.envGate && s0.noteOn)) ∧
    ((s0.setWsel 8).wsel.toNat / 8 = 1 ∧
      false = ((prngNext (s0.setWsel 8).prngA).getLsbD 0 && s0.envGate && s0.noteOn)) ∧
    ((s0.setWsel 0x17).wsel.toNat / 8 = 2 ∧
      polyRuleNext (s0.cfg.polyRules.get (Fin.ofNat 8 (s0.setWsel 0x17).wsel.toNat)) s0.r4 s0.r5 =
        (0xF, 0x1E) ∧
      true = ((0xF#4).getLsbD 3 && s0.envGate && s0.noteOn)) := by decide

theorem witness_ReservedClassStopsTheAudioTick :
    (s0.setWsel 0x18).wsel.toNat / 8 = 3 ∧ ((s0.setWsel 0x18).setClock 0 0).count = 0 ∧
    ((s0.setWsel 0x18).setClock 0 0).period = 0 := by decide

/-- One count below PERIOD, and COUNT at PERIOD. -/
theorem witness_TclkCountsAndFires :
    (s0.setClock 200 199).count ≠ (s0.setClock 200 199).period ∧
    (s0.setClock 200 200).count = (s0.setClock 200 200).period ∧
    (s0.setClock 200 200).wsel.toNat / 8 ≠ 3 := by decide

/-- With two counts to go, and with none. -/
theorem witness_NextTickComesWithinPeriodPlusOneTclks :
    s0.wsel.toNat / 8 ≠ 3 ∧
    ((s0.setClock 5 3).count.toNat + 2 = (s0.setClock 5 3).period.toNat ∧
      (s0.setPort (List.replicate 3 0x20000000)).port =
        List.replicate (2 + 1) 0x20000000#32 ++ []) ∧
    ((s0.setClock 5 5).count.toNat + 0 = (s0.setClock 5 5).period.toNat ∧
      (s0.setPort (List.replicate 1 0x20000000)).port =
        List.replicate (0 + 1) 0x20000000#32 ++ []) := by decide

/-! ## Witnesses: the LFO -/

theorem witness_LfoIsFlatAtFrequencyZero : s0.lfoFreq = 0 := by decide

/-- A state with F = 8, D = 64, delta = 2048 (95 section 2.5), waveform `w` and phase `p`. -/
def lfoAt (w : BitVec 3) (p : BitVec 8) : State := (s0.setLfoParams 8 64 w 2048).setLfoEngine p 0 false

/-- Every waveform at the phases where its halves and quarters meet, with the values of 95 section 2.5;
and a phase not below LFO_FREQ, which counts as 0. -/
theorem witness_LfoStepComputesItsWaveform :
    ∀ x ∈ ([(0, 3, 3, 48), (0, 4, 4, 64), (0, 8, 0, 0), (1, 7, 7, 56), (2, 7, 7, 8), (3, 3, 3, 0),
        (3, 4, 4, 64), (4, 1, 1, 64), (4, 2, 2, 0), (5, 3, 3, 48), (5, 4, 4, 0), (6, 3, 3, 16),
        (6, 4, 4, 0)] : List (Nat × Nat × Nat × Nat)),
      let s := lfoAt (BitVec.ofNat 3 x.1) (BitVec.ofNat 8 x.2.1)
      let p := x.2.2.1
      let v := x.2.2.2
      s.lfoFreq ≠ 0 ∧ 8 = s.lfoFreq.toNat ∧ 64 = s.lfoDepth.toNat ∧ 2048 = s.lfoDelta.toNat ∧
      p = (if 8 ≤ s.lfoPhase.toNat then 0 else s.lfoPhase.toNat) ∧ 4 = 8 >>> 1 ∧ 2 = 8 >>> 2 ∧
      (s.lfoWave = 0 ∧ v = (if p < 4 then min ((2 * p * 2048) >>> 8) 64
          else min ((2 * (8 - p) * 2048) >>> 8) 64) ∨
        s.lfoWave = 1 ∧ v = min ((p * 2048) >>> 8) 64 ∨
        s.lfoWave = 2 ∧ v = 64 - min ((p * 2048) >>> 8) 64 ∨
        s.lfoWave = 3 ∧ v = (if p < 4 then 0 else 64) ∨
        s.lfoWave = 4 ∧ v = (if p < 2 then 64 else 0) ∨
        s.lfoWave = 5 ∧ v = (if p < 4 then min ((2 * p * 2048) >>> 8) 64 else 0) ∨
        s.lfoWave = 6 ∧ v = (if p < 4 then 64 - min ((2 * p * 2048) >>> 8) 64 else 0)) := by
  decide

/-- Phase 0 and phase 1 of the random waveform. -/
theorem witness_LfoRandomDrawsAtPhaseZero :
    ((lfoAt 7 0).lfoFreq ≠ 0 ∧ (lfoAt 7 0).lfoWave = 7 ∧ 8 = (lfoAt 7 0).lfoFreq.toNat ∧
      64 = (lfoAt 7 0).lfoDepth.toNat ∧
      0 = (if 8 ≤ (lfoAt 7 0).lfoPhase.toNat then 0 else (lfoAt 7 0).lfoPhase.toNat)) ∧
    ((lfoAt 7 1).lfoFreq ≠ 0 ∧ (lfoAt 7 1).lfoWave = 7 ∧
      1 = (if 8 ≤ (lfoAt 7 1).lfoPhase.toNat then 0 else (lfoAt 7 1).lfoPhase.toNat)) := by decide

theorem witness_LfoValueStaysWithinDepth :
    (lfoAt 6 0).lfoWave ≠ 7 ∧ (lfoAt 7 0).lfoWave = 7 ∧ (lfoAt 7 0).lfoFreq ≠ 0 ∧
    (lfoAt 7 0).lfoPhase = 0 ∧ (lfoAt 7 0).lfoDepth ≠ 0 := by decide

/-- F = 8, D = 64 at phases 0, F - 1 and F / 2, and F = 1, D = 5 (95 section 2.5). -/
theorem witness_TrianglePropertiesAndTheirLimits :
    ((lfoAt 0 0).lfoWave = 0 ∧ (lfoAt 0 0).lfoDelta.toNat = 64 * 256 / 8 ∧ (lfoAt 0 0).lfoPhase = 0 ∧
      2 ≤ (lfoAt 0 0).lfoFreq.toNat) ∧
    (lfoAt 0 7).lfoPhase.toNat = (lfoAt 0 7).lfoFreq.toNat - 1 ∧
    (lfoAt 0 4).lfoPhase.toNat = (lfoAt 0 4).lfoFreq.toNat / 2 ∧
    ((s0.setLfoParams 1 5 0 1280).lfoFreq.toNat = 1 ∧
      (s0.setLfoParams 1 5 0 1280).lfoDelta.toNat = 5 * 256 / 1) := by decide

theorem witness_GeneratorsAreIndependentUnlessShared :
    s0.cfg.prngShared = false ∧
    exec .atick s0 = .next { s0 with pattern := 0x807F, out := true, resp := 3 } ∧
    (State.resetWith { tc1 with prngShared := true }).cfg.prngShared = true ∧
    ((State.resetWith { tc1 with prngShared := true }).setLfoParams 2 100 7 12800).lfoFreq ≠ 0 ∧
    ((State.resetWith { tc1 with prngShared := true }).setLfoParams 2 100 7 12800).lfoWave = 7 ∧
    ((State.resetWith { tc1 with prngShared := true }).setLfoParams 2 100 7 12800).lfoPhase = 0 :=
  ⟨rfl, rfl, rfl, by decide, rfl, rfl⟩

/-! ## Witnesses: the envelope, the resolver and the notes -/

/-- ENV_FREQ 0; and ENV_FREQ 5 at its last phase and at a phase past it. -/
theorem witness_EnvelopeStepGates :
    s0.envFreq = 0 ∧ (s0.setEnvParams 5 2).envFreq ≠ 0 ∧
    4 = (if (5#8).toNat ≤ (4#8).toNat then 0 else (4#8).toNat) ∧
    0 = (if (5#8).toNat ≤ (5#8).toNat then 0 else (5#8).toNat) := by decide

/-- E = 5, W = 2 and E = 1, W = 0 (95 section 2.6). -/
theorem witness_EnvelopeGateOverOnePeriod :
    (5 = (s0.setEnvParams 5 2).envFreq.toNat ∧ 2 = (s0.setEnvParams 5 2).envWidth.toNat ∧ 0 < 5 ∧
      (s0.setEnvParams 5 2).envPhase = 0 ∧
      (s0.setPort (List.replicate 5 0x31000000)).port = List.replicate 5 0x31000000#32 ++ []) ∧
    (1 = (s0.setEnvParams 1 0).envFreq.toNat ∧ 0 = (s0.setEnvParams 1 0).envWidth.toNat ∧ 0 < 1 ∧
      (s0.setPort (List.replicate 1 0x31000000)).port = List.replicate 1 0x31000000#32 ++ []) := by
  decide

/-- V1 without EXT, V2 with it (95 section 1). -/
theorem witness_ResolveProgramsThePeriod :
    ((1800 : Int) = 200 + 4 * (((s0.setPitch 400).pitch.toNat : Int) - s0.lfoValue.toNat) ∧
      s0.ext = false ∧ (1800 : BitVec 16) = BitVec.ofInt 16 1800) ∧
    ((400 : Int) = ((440#16).toNat : Int) - 4 * ((s0.setLfoEngine 0 10 false).lfoValue.toNat : Int) ∧
      (s0.setNote true true 0).ext = true ∧ (400 : BitVec 16) = BitVec.ofInt 16 400) := by decide

/-- Both formulas on both sides of both limits (95 section 2.7). -/
theorem witness_RangeErrorExactlyOutsideSixteenBits :
    (s0.setNote true true 0).ext = true ∧ s0.ext = false ∧
    ((10#16).toNat < 4 * (5#8).toNat ∧ ¬(1000#16).toNat < 4 * (250#8).toNat) ∧
    ((0#16).toNat + 50 < (51#8).toNat ∧ ¬(0#16).toNat + 50 < (50#8).toNat) ∧
    ((0#8).toNat + 16333 < (16334#16).toNat ∧ ¬(0#8).toNat + 16333 < (16333#16).toNat) := by decide

/-- V3: PERIOD = 200, COUNT = 150, EXT = 1, PITCH = 200 resolves to the same period. -/
theorem witness_ResolvingTheSamePeriodKeepsTheCount :
    exec .resolve (((s0.setClock 200 150).setPitch 200).setNote true true 0) =
      .next { ((s0.setClock 200 150).setPitch 200).setNote true true 0 with resp := 200 } := rfl

theorem witness_NoteonStartsTheNote :
    (0x40000080#32).toNat / 16777216 = 0x40 ∧ (0x40000080#32).toNat % 16777216 / 128 ≠ 0 ∧
    (presentFirst 0x40000080 s0).port = 0x40000080#32 :: [] := by decide

theorem witness_NoteoffEndsTheMatchingNote :
    (0 : BitVec 7) = s0.lastNote ∧ (127 : BitVec 7) ≠ s0.lastNote ∧
    (0x41000080#32).toNat / 16777216 = 0x41 ∧ (0x41000080#32).toNat % 16777216 / 128 ≠ 0 ∧
    (presentFirst 0x41000080 s0).port = 0x41000080#32 :: [] := by decide

theorem witness_StopClearsNoteOn :
    (0x42000001#32).toNat / 16777216 = 0x42 ∧ 0x42000001#32 ≠ 0x42000000#32 ∧
    (presentFirst 0x42000001 s0).port = 0x42000001#32 :: [] := by decide

end Sys2Proof.Tests
end

/-! What a command can do, said once: the relation `Effect` names, for each command, the registers
it writes, and `exec_effect` ties it to `exec`. Later proofs about commands split on `Effect`. -/

namespace Sys2Proof.Machine

variable {s t : State}

@[simp] theorem State.setLfoAll_eq (a b : BitVec 16) (p v : BitVec 8) (i : Bool) (s : State) :
    s.setLfoAll a b p v i = ((s.setPrngA a).setPrngB b).setLfoEngine p v i := rfl

/-! ### Classes and waveforms as numbers -/

theorem wselClass_eq_pattern_iff (w : BitVec 5) : wselClass w = .pattern ↔ w.toNat / 8 = 0 := by
  revert w; decide

theorem wselClass_eq_noise_iff (w : BitVec 5) : wselClass w = .noise ↔ w.toNat / 8 = 1 := by
  revert w; decide

theorem wselClass_eq_poly_iff (w : BitVec 5) : wselClass w = .poly ↔ w.toNat / 8 = 2 := by
  revert w; decide

theorem waveformOf_eq_random_iff (w : BitVec 3) : waveformOf w = .random ↔ w = 7 := by
  revert w; decide

/-! ### The two effects that depend on a selection -/

/-- One step of the source WSEL selects (R130): the new PATTERN, PRNG_A, R4 and R5. -/
inductive SourceStep (s : State) : BitVec 16 → BitVec 16 → BitVec 4 → BitVec 5 → Prop where
  | pattern (hc : s.wsel.toNat / 8 = 0) (p : BitVec 16) : SourceStep s p s.prngA s.r4 s.r5
  | noise (hc : s.wsel.toNat / 8 = 1) : SourceStep s s.pattern (prngNext s.prngA) s.r4 s.r5
  | poly (hc : s.wsel.toNat / 8 = 2) (a : BitVec 4) (b : BitVec 5) :
      SourceStep s s.pattern s.prngA a b

/-- The generators after an LFO step (R180): kept, or one of them stepped by the random waveform. -/
inductive LfoDraw (s : State) : BitVec 16 → BitVec 16 → Prop where
  | none : LfoDraw s s.prngA s.prngB
  | shared (hw : s.lfoWave = 7) (hs : s.cfg.prngShared = true) :
      LfoDraw s (prngNext s.prngA) s.prngB
  | own (hw : s.lfoWave = 7) (hs : s.cfg.prngShared = false) :
      LfoDraw s s.prngA (prngNext s.prngB)

/-- An audio tick steps the selected source and drives OUT. -/
theorem audioTick_sourceStep {x : Bool} (h : audioTick s = .ok (x, t)) :
    ∃ p v a b o, SourceStep s p v a b ∧
      t = (((s.setPattern p).setPrngA v).setPoly a b).setOut o := by
  obtain ⟨u, hu, rfl⟩ := audioTick_cases h
  obtain ⟨hc, -, rfl⟩ | ⟨hc, -, rfl⟩ | ⟨hc, hp⟩ := nextBit_cases hu
  · exact ⟨rotateRight1 s.pattern, _, _, _, _, .pattern ((wselClass_eq_pattern_iff _).mp hc) _, rfl⟩
  · exact ⟨_, _, _, _, _, .noise ((wselClass_eq_noise_iff _).mp hc), rfl⟩
  · cases hp
    exact ⟨_, _, _, _, _, .poly ((wselClass_eq_poly_iff _).mp hc) _ _, rfl⟩

/-- The sample counter has no part in a source's step. -/
theorem SourceStep.of_setClock {n c p v : BitVec 16} {a : BitVec 4} {b : BitVec 5}
    (h : SourceStep (s.setClock n c) p v a b) : SourceStep s p v a b := by
  cases h with
  | pattern hc p => exact SourceStep.pattern (s := s) hc p
  | noise hc => exact SourceStep.noise (s := s) hc
  | poly hc a b => exact SourceStep.poly (s := s) hc a b

/-- An LFO step moves the LFO's engine and draws at most once. -/
theorem lfoStep_draw (s : State) :
    ∃ a b p v i, LfoDraw s a b ∧ lfoStep s = s.setLfoAll a b p v i := by
  unfold lfoStep
  split
  · exact ⟨_, _, _, _, _, .none, rfl⟩
  · obtain ⟨a, b, v, hw, hab⟩ := lfoWave_spec (phaseUsed s.lfoFreq s.lfoPhase) s
    refine ⟨a, b, _, v, _, ?_, congrArg (lfoAdvance _) hw⟩
    obtain ⟨rfl, rfl⟩ | ⟨hr, -, ⟨hs, rfl, rfl⟩ | ⟨hs, rfl, rfl⟩⟩ := hab
    · exact .none
    · exact .shared ((waveformOf_eq_random_iff _).mp hr) hs
    · exact .own ((waveformOf_eq_random_iff _).mp hr) hs

/-- The resolver's writes (R160, R162): PERIOD, COUNT, and RANGE_ERR where `x` says so. -/
def State.setResolved (n : BitVec 16) (x : Bool) (s : State) : State :=
  (s.setErrors (s.rangeErr || x) s.cmdErr).setClock n
    (if n ≠ s.period ∧ n.toNat < s.count.toNat then 0 else s.count)

theorem resolvePitch_eq_setResolved (s : State) :
    resolvePitch s = s.setResolved (wrapPeriod (exactPeriod s)) (outOfRange (exactPeriod s)) :=
  resolvePitch_spec s

/-- A write of PITCH keeps the old value while EXT = 1 (R218). -/
theorem pitchWrite_eq_setPitch (d : BitVec 16) (s : State) :
    pitchWrite d s = s.setPitch (if s.ext then s.pitch else d) := by
  unfold pitchWrite
  split <;> rfl

/-! ### Commands -/

/-- What each command can do: one constructor for each way it completes. -/
inductive Effect (s : State) : Instr → State → Prop where
  | nop : Effect s .nop (s.setResp 0)
  | wrregRefused (a d) (hw : writeAddr a d s = none) : Effect s (.wrreg a d) (reject s)
  | wselKept (d) : Effect s (.wrreg 0x00 d) (s.setResp 0)
  | wselSelected (d p) (hc : wselClass (d.extractLsb' 0 5) ≠ .reserved) :
      Effect s (.wrreg 0x00 d) (((s.setWsel (d.extractLsb' 0 5)).setPattern p).setResp 0)
  | pitch (d) : Effect s (.wrreg 0x05 d) ((s.setPitch (if s.ext then s.pitch else d)).setResp 0)
  | lfoFreq (d f) : Effect s (.wrreg 0x06 d)
      ((s.setLfoParams f s.lfoDepth s.lfoWave (deltaOf f s.lfoDepth)).setResp 0)
  | lfoDepth (d e) : Effect s (.wrreg 0x07 d)
      ((s.setLfoParams s.lfoFreq e s.lfoWave (deltaOf s.lfoFreq e)).setResp 0)
  | lfoWave (d w) : Effect s (.wrreg 0x08 d)
      ((s.setLfoParams s.lfoFreq s.lfoDepth w s.lfoDelta).setResp 0)
  | envFreq (d f) : Effect s (.wrreg 0x0B d) ((s.setEnvParams f s.envWidth).setResp 0)
  | envWidth (d w) : Effect s (.wrreg 0x0C d) ((s.setEnvParams s.envFreq w).setResp 0)
  | status (d) : Effect s (.wrreg 0x10 d)
      ((s.setErrors (s.rangeErr && !d.getLsbD 5) (s.cmdErr && !d.getLsbD 6)).setResp 0)
  | rdregRefused (a) (hr : readAddr a s = none) : Effect s (.rdreg a) (reject s)
  | rdreg (a v) (hr : readAddr a s = some v) : Effect s (.rdreg a) (s.setResp v)
  | poly (k a b r) : Effect s (.poly k) ((s.setPoly a b).setResp r)
  | noise (r) : Effect s .noise ((s.setPrngA (prngNext s.prngA)).setResp r)
  | patstep (r) : Effect s .patstep ((s.setPattern (rotateRight1 s.pattern)).setResp r)
  | tclkCount (r) (hc : s.count ≠ s.period) :
      Effect s .tclk ((s.setClock s.period (s.count + 1)).setResp r)
  | tclkFire {p v a b} (o r) (hc : s.count = s.period) (hs : SourceStep s p v a b) :
      Effect s .tclk
        ((((((s.setClock s.period 0).setPattern p).setPrngA v).setPoly a b).setOut o).setResp r)
  | atick {p v a b} (o r) (hs : SourceStep s p v a b) :
      Effect s .atick (((((s.setPattern p).setPrngA v).setPoly a b).setOut o).setResp r)
  | lfostep {a b} (p v i r) (hd : LfoDraw s a b) :
      Effect s .lfostep ((s.setLfoAll a b p v i).setResp r)
  | envstep (q g r) : Effect s .envstep ((s.setEnvEngine q g).setResp r)
  | resolve (n x r) : Effect s .resolve ((s.setResolved n x).setResp r)
  | ctick {a b} (p v i q g n x r) (hd : LfoDraw s a b) :
      Effect s .ctick ((((s.setLfoAll a b p v i).setEnvEngine q g).setResolved n x).setResp r)
  | noteon (n p) : Effect s (.noteon n) (((s.setNote true true n).setPitch p).setResp 0)
  | noteoff (n on) : Effect s (.noteoff n) ((s.setNote on true s.lastNote).setResp 0)
  | stop : Effect s .stop ((s.setNote false true s.lastNote).setResp 0)

theorem execWrreg_effect {a : BitVec 8} {d : BitVec 16} (h : execWrreg a d s = .next t) :
    Effect s (.wrreg a d) t := by
  unfold execWrreg at h
  split at h
  · rename_i u hu
    cases h
    obtain ⟨r, rfl, hr⟩ := writeAddr_cases hu
    obtain ⟨rfl, hw⟩ | ⟨rfl, rfl⟩ | ⟨rfl, rfl⟩ | ⟨rfl, rfl⟩ | ⟨rfl, rfl⟩ | ⟨rfl, rfl⟩ | ⟨rfl, rfl⟩ |
      ⟨rfl, rfl⟩ := writeReg_cases hr
    · obtain ⟨hc, ⟨-, rfl⟩ | ⟨-, rfl⟩⟩ := wselWrite_cases hw
      · exact .wselKept d
      · obtain ⟨p, hp⟩ := selectSource_spec (d.extractLsb' 0 5) s
        rw [hp]
        exact .wselSelected d p hc
    · rw [pitchWrite_eq_setPitch]
      exact .pitch d
    · exact .lfoFreq d _
    · exact .lfoDepth d _
    · exact .lfoWave d _
    · exact .envFreq d _
    · exact .envWidth d _
    · exact .status d
  · rename_i hn
    cases h
    exact .wrregRefused a d hn

theorem execRdreg_effect {a : BitVec 8} (h : execRdreg a s = .next t) : Effect s (.rdreg a) t := by
  unfold execRdreg at h
  split at h
  · rename_i v hv
    cases h
    exact .rdreg a v hv
  · rename_i hn
    cases h
    exact .rdregRefused a hn

theorem execTclk_effect (h : execTclk s = .next t) : Effect s .tclk t := by
  unfold execTclk at h
  split at h
  · rename_i hc
    unfold tclkFire at h
    split at h
    · rename_i x u hu
      cases h
      obtain ⟨p, v, a, b, o, hs, rfl⟩ := audioTick_sourceStep hu
      exact .tclkFire o _ hc hs.of_setClock
    · cases h
  · rename_i hc
    cases h
    exact .tclkCount _ hc

theorem execAtick_effect (h : execAtick s = .next t) : Effect s .atick t := by
  unfold execAtick at h
  split at h
  · cases h
    rename_i x u hu
    obtain ⟨p, v, a, b, o, hs, rfl⟩ := audioTick_sourceStep hu
    exact .atick o _ hs
  · cases h

theorem execLfostep_effect (h : execLfostep s = .next t) : Effect s .lfostep t := by
  cases h
  obtain ⟨a, b, p, v, i, hd, hl⟩ := lfoStep_draw s
  rw [hl]
  exact .lfostep p v i _ hd

theorem execEnvstep_effect (h : execEnvstep s = .next t) : Effect s .envstep t := by
  cases h
  obtain ⟨q, g, he⟩ := envStep_spec s
  rw [he]
  exact .envstep q g _

theorem execResolve_effect (h : execResolve s = .next t) : Effect s .resolve t := by
  cases h
  rw [resolvePitch_eq_setResolved]
  exact .resolve _ _ _

theorem execCtick_effect (h : execCtick s = .next t) : Effect s .ctick t := by
  cases h
  obtain ⟨a, b, p, v, i, hd, hl⟩ := lfoStep_draw s
  obtain ⟨q, g, he⟩ := envStep_spec (lfoStep s)
  rw [resolvePitch_eq_setResolved, he, hl]
  exact .ctick p v i q g _ _ _ hd

/-- A command that answers a next state completes in one of the ways `Effect` lists. -/
theorem exec_effect {i : Instr} (h : exec i s = .next t) : Effect s i t := by
  cases i with
  | nop => cases h; exact .nop
  | wrreg a d => exact execWrreg_effect h
  | rdreg a => exact execRdreg_effect h
  | poly k => cases h; exact .poly k _ _ _
  | noise => cases h; exact .noise _
  | patstep => cases h; exact .patstep _
  | tclk => exact execTclk_effect h
  | atick => exact execAtick_effect h
  | lfostep => exact execLfostep_effect h
  | envstep => exact execEnvstep_effect h
  | resolve => exact execResolve_effect h
  | ctick => exact execCtick_effect h
  | noteon n => cases h; exact .noteon n _
  | noteoff n => cases h; exact .noteoff n _
  | stop => cases h; exact .stop

end Sys2Proof.Machine

/-! The invariant of the block: it holds at reset, every step keeps it, so it holds of every state a
run reaches. -/

namespace Sys2Proof.Machine

variable {s t : State}

/-! ### The generators never become 0 -/

theorem prngNext_of_bit0_false {v : BitVec 16} (h : v.getLsbD 0 = false) :
    prngNext v = v >>> 1 := by
  simp only [prngNext, h, Bool.false_eq_true, if_false, BitVec.xor_zero]

/-- A 1 that is shifted out comes back at the top (R112). -/
theorem prngNext_bit15_of_bit0_true {v : BitVec 16} (h : v.getLsbD 0 = true) :
    (prngNext v).getLsbD 15 = true := by
  simp only [prngNext, h, if_true, BitVec.getLsbD_xor, BitVec.getLsbD_ushiftRight]
  simp

/-- Only 0 steps to 0: a 1 in bit 0 moves to bit 15, and every other bit moves one place down. -/
theorem prngNext_ne_zero {v : BitVec 16} (hv : v ≠ 0) : prngNext v ≠ 0 := by
  intro h
  cases h0 : v.getLsbD 0 with
  | true => simpa [h] using prngNext_bit15_of_bit0_true h0
  | false =>
    rw [prngNext_of_bit0_false h0] at h
    refine hv (BitVec.eq_of_getLsbD_eq fun k _ => ?_)
    cases k with
    | zero => simpa using h0
    | succ k => simpa [Nat.add_comm] using congrArg (BitVec.getLsbD · k) h

theorem SourceStep.prngA_ne_zero {p v : BitVec 16} {a : BitVec 4} {b : BitVec 5}
    (h : SourceStep s p v a b) (hA : s.prngA ≠ 0) : v ≠ 0 := by
  cases h with
  | pattern hc p => exact hA
  | noise hc => exact prngNext_ne_zero hA
  | poly hc a b => exact hA

theorem LfoDraw.ne_zero {a b : BitVec 16} (h : LfoDraw s a b) (hA : s.prngA ≠ 0)
    (hB : s.prngB ≠ 0) : a ≠ 0 ∧ b ≠ 0 := by
  cases h with
  | none => exact ⟨hA, hB⟩
  | shared hw hs => exact ⟨prngNext_ne_zero hA, hB⟩
  | own hw hs => exact ⟨hA, prngNext_ne_zero hB⟩

/-! ### The counter stays below the period -/

/-- Programming a period clears a counter that would be above it (R160, R155). -/
theorem setResolved_countBounded (n : BitVec 16) (x : Bool) (h : s.count.toNat ≤ s.period.toNat) :
    (s.setResolved n x).count.toNat ≤ (s.setResolved n x).period.toNat := by
  simp only [State.setResolved, State.setClock_count, State.setClock_period]
  split
  · simp
  · rename_i hn
    by_cases hp : n = s.period
    · exact hp ▸ h
    · exact not_lt.mp fun hlt => hn ⟨hp, hlt⟩

/-- Below PERIOD the counter goes up by one, so it cannot wrap. -/
theorem count_succ_le_period (h : s.count.toNat ≤ s.period.toNat) (hne : s.count ≠ s.period) :
    (s.count + 1).toNat ≤ s.period.toNat := by
  have : s.count.toNat ≠ s.period.toNat := fun he => hne (BitVec.eq_of_toNat_eq he)
  bv_omega

/-! ### Preservation -/

theorem StateInv.setPort (h : StateInv s) (ws : List Word) : StateInv (s.setPort ws) := { h with }

theorem StateInv.reject (h : StateInv s) : StateInv (reject s) := { h with }

/-- The one case split behind the invariant: each effect touches few of the fields it speaks of. -/
theorem Effect.stateInv {i : Instr} (he : Effect s i t) (h : StateInv s) : StateInv t := by
  cases he with
  | nop | wselKept | rdreg | pitch | lfoWave | envFreq | envWidth | status | poly | patstep
  | envstep | noteon | noteoff | stop => exact { h with }
  | wrregRefused | rdregRefused => exact h.reject
  | wselSelected d p hc => exact { h with wselDefined := hc }
  | lfoFreq | lfoDepth => exact { h with deltaCurrent := rfl }
  | noise => exact { h with prngANonzero := prngNext_ne_zero h.prngANonzero }
  | tclkCount r hc => exact { h with countBounded := count_succ_le_period h.countBounded hc }
  | tclkFire o r hc hs =>
    exact { h with
      countBounded := Nat.zero_le _
      prngANonzero := hs.prngA_ne_zero h.prngANonzero }
  | atick o r hs => exact { h with prngANonzero := hs.prngA_ne_zero h.prngANonzero }
  | lfostep p v i r hd =>
    obtain ⟨ha, hb⟩ := hd.ne_zero h.prngANonzero h.prngBNonzero
    exact { h with prngANonzero := ha, prngBNonzero := hb }
  | resolve n x r => exact { h with countBounded := setResolved_countBounded n x h.countBounded }
  | ctick p v i q g n x r hd =>
    obtain ⟨ha, hb⟩ := hd.ne_zero h.prngANonzero h.prngBNonzero
    exact { h with
      countBounded := setResolved_countBounded (s := (s.setLfoAll _ _ p v i).setEnvEngine q g) n x
        h.countBounded
      prngANonzero := ha
      prngBNonzero := hb }

/-- Settles O16: each way a step can go keeps the four properties. -/
theorem stepKeepsTheInvariant : Obligations.StepKeepsTheInvariant := by
  intro s t h hs
  obtain ⟨-, rfl⟩ | ⟨w, ws, -, ⟨i, -, he⟩ | ⟨e, -, rfl⟩⟩ := step_cases hs
  · exact h
  · exact (exec_effect he).stateInv (h.setPort ws)
  · exact (h.setPort ws).reject

/-! ### At reset and along runs -/

theorem stateInv_resetWith {c : Config} (hc : c.valid = true) : StateInv (State.resetWith c) := by
  simp only [Config.valid, Bool.and_eq_true, bne_iff_ne] at hc
  obtain ⟨⟨⟨hA, hB⟩, -⟩, -⟩ := hc
  exact
    { wselDefined := (by decide : wselClass 0 ≠ .reserved)
      countBounded := Nat.zero_le _
      deltaCurrent := rfl
      prngANonzero := hA
      prngBNonzero := hB }

/-- Power-on answers the reset state, and only for a valid configuration. -/
theorem powerOn_eq_next {c : Config} (h : powerOn c = .next s) :
    c.valid = true ∧ s = State.resetWith c := by
  unfold powerOn at h
  split at h
  · rename_i hc
    cases h
    exact ⟨hc, rfl⟩
  · cases h

/-- The invariant holds in every state that a run from power-on reaches. -/
theorem stateInv_of_reaches {c : Config} (h : powerOn c = .next s) (hr : Reaches s t) :
    StateInv t := by
  obtain ⟨hc, rfl⟩ := powerOn_eq_next h
  exact reaches_induction hr (stateInv_resetWith hc) (fun ws _ hu => hu.setPort ws)
    stepKeepsTheInvariant

/-- Settles O15: R262 makes the seeds nonzero, and the reset values meet the rest. -/
theorem resetMeetsTheInvariant : Obligations.ResetMeetsTheInvariant :=
  ⟨fun _ => stateInv_resetWith, stateInv_resetWith (by decide)⟩

/-- Settles O18, from the invariant of runs. -/
theorem countNeverPassesPeriod : Obligations.CountNeverPassesPeriod :=
  fun _ _ _ h hr => (stateInv_of_reaches h hr).countBounded

end Sys2Proof.Machine

/-! Who writes what: the ownership list of R50, and the commands that clear an error flag. -/

namespace Sys2Proof.Machine

variable {s t : State}

/-- `reject()` as one record update: CMD_ERR and the response, nothing else (R17). -/
theorem reject_eq_record (s : State) : reject s = { s with cmdErr := true, resp := 0 } := rfl

/-- Settles O19: each way a command can complete writes only registers it owns. -/
theorem registersHaveFixedWriters : Obligations.RegistersHaveFixedWriters := by
  intro i s t h
  cases exec_effect h with
  | nop | wselKept | wselSelected | pitch | lfoFreq | lfoDepth | lfoWave | envFreq | envWidth
  | status | rdreg | poly | noise | patstep | tclkCount | envstep | noteon | noteoff | stop => simp
  | wrregRefused | rdregRefused => rw [reject_eq_record]; simp
  | tclkFire o r hc hs => cases hs <;> simp [*]
  | atick o r hs => cases hs <;> simp [*]
  | lfostep p v i r hd => cases hd <;> simp [*]
  | resolve => simp [State.setResolved]
  | ctick p v i q g n x r hd => cases hd <;> simp [State.setResolved, *]

/-! ### Clearing an error flag -/

theorem exec_clears_rangeErr {i : Instr} (h : exec i s = .next t) (hs : s.rangeErr = true)
    (ht : t.rangeErr = false) : ∃ d, i = .wrreg 0x10 d ∧ d.getLsbD 5 = true := by
  cases exec_effect h with
  | status d => exact ⟨d, rfl, by simpa [hs] using ht⟩
  | _ => simp [hs, State.setResolved] at ht

theorem exec_clears_cmdErr {i : Instr} (h : exec i s = .next t) (hs : s.cmdErr = true)
    (ht : t.cmdErr = false) : ∃ d, i = .wrreg 0x10 d ∧ d.getLsbD 6 = true := by
  cases exec_effect h with
  | status d => exact ⟨d, rfl, by simpa [hs] using ht⟩
  | _ => simp [hs, State.setResolved] at ht

/-- Settles O21: neither idling nor `reject()` clears a flag, so a command does. -/
theorem errorFlagsClearOnlyByStatusWrites : Obligations.ErrorFlagsClearOnlyByStatusWrites := by
  intro s t h
  obtain ⟨-, rfl⟩ | ⟨w, ws, hp, ⟨i, hi, he⟩ | ⟨e, -, rfl⟩⟩ := step_cases h
  · exact ⟨fun hs ht => by simp [hs] at ht, fun hs ht => by simp [hs] at ht⟩
  · constructor
    · intro hs ht
      obtain ⟨d, rfl, hd⟩ := exec_clears_rangeErr he hs ht
      exact ⟨w, ws, d, hp, hi, hd⟩
    · intro hs ht
      obtain ⟨d, rfl, hd⟩ := exec_clears_cmdErr he hs ht
      exact ⟨w, ws, d, hp, hi, hd⟩
  · exact ⟨fun hs ht => by simp [hs] at ht, fun _ ht => by simp at ht⟩

end Sys2Proof.Machine

/-! Reads of the register map (R47 to R49). -/

namespace Sys2Proof.Machine

/-! ### The composed registers as numbers -/

theorem statusWord_toNat (s : State) : (statusWord s).toNat =
    s.noteOn.toNat + 2 * s.ext.toNat + 4 * s.envGate.toNat + 8 * s.lfoInd.toNat
      + 16 * s.out.toNat + 32 * s.rangeErr.toNat + 64 * s.cmdErr.toNat := by
  unfold statusWord
  generalize s.noteOn = b0, s.ext = b1, s.envGate = b2, s.lfoInd = b3, s.out = b4, s.rangeErr = b5,
    s.cmdErr = b6
  revert b0 b1 b2 b3 b4 b5 b6
  decide

/-- `{R5, R4}` as a number (R49). -/
theorem polyWord_toNat (a : BitVec 4) (b : BitVec 5) :
    ((b ++ a).setWidth 16).toNat = a.toNat + 16 * b.toNat := by
  revert a b
  decide

theorem lfoStateWord_toNat (p v : BitVec 8) : (p ++ v).toNat = v.toNat + 256 * p.toNat := by
  rw [BitVec.toNat_append, ← Nat.shiftLeft_add_eq_or_of_lt v.isLt, Nat.shiftLeft_eq]
  omega

theorem readPrngB_toNat (s : State) :
    (readPrngB s).toNat = if s.cfg.prngShared then s.prngA.toNat else s.prngB.toNat := by
  unfold readPrngB
  split <;> rfl

/-! ### The map -/

/-- The value of each register of the map, in the order of the addresses (R47, R48, R49). -/
def regValues (s : State) : List Nat :=
  [s.wsel.toNat, s.pattern.toNat, s.prngA.toNat,
    (if s.cfg.prngShared then s.prngA.toNat else s.prngB.toNat),
    s.r4.toNat + 16 * s.r5.toNat, s.pitch.toNat, s.lfoFreq.toNat, s.lfoDepth.toNat,
    s.lfoWave.toNat, s.lfoDelta.toNat, s.lfoValue.toNat + 256 * s.lfoPhase.toNat,
    s.envFreq.toNat, s.envWidth.toNat, s.envPhase.toNat, s.period.toNat, s.count.toNat,
    s.noteOn.toNat + 2 * s.ext.toNat + 4 * s.envGate.toNat + 8 * s.lfoInd.toNat
      + 16 * s.out.toNat + 32 * s.rangeErr.toNat + 64 * s.cmdErr.toNat,
    s.lastNote.toNat]

/-- A read answers the entry of its register's address, zero-extended. -/
theorem regValues_getElem?_regAddr (r : Reg) (s : State) :
    (regValues s)[(regAddr r).toNat]? = some (readReg r s).toNat := by
  cases r with
  | prngB => exact congrArg some (readPrngB_toNat s).symm
  | poly => exact congrArg some (polyWord_toNat s.r4 s.r5).symm
  | lfoState => exact congrArg some (lfoStateWord_toNat s.lfoPhase s.lfoValue).symm
  | status => exact congrArg some (statusWord_toNat s).symm
  | pattern | prngA | pitch | lfoDelta | period | count => rfl
  | wsel | lfoFreq | lfoDepth | lfoWave | envFreq | envWidth | envPhase | lastNote =>
    exact congrArg some (BitVec.toNat_setWidth_of_le (by decide)).symm

/-- A read finds nothing exactly past the end of the list. -/
theorem readAddr_eq_map (a : BitVec 8) (s : State) :
    readAddr a s = (regValues s)[a.toNat]?.map (BitVec.ofNat 16) := by
  unfold readAddr
  split
  · rename_i r hr
    rw [← regAddr_of_regAt hr, regValues_getElem?_regAddr, Option.map_some, BitVec.ofNat_toNat,
      BitVec.setWidth_eq]
  · rename_i hr
    rw [List.getElem?_eq_none ((regAt_eq_none_iff a).mp hr), Option.map_none]

/-- Settles O31, from the list of the register values. -/
theorem rdregAnswersTheRegisterMap : Obligations.RdregAnswersTheRegisterMap := by
  intro s a
  show execRdreg a s = match (regValues s)[a.toNat]? with
    | some v => .next { s with resp := BitVec.ofNat 16 v }
    | none => .next { s with cmdErr := true, resp := 0 }
  unfold execRdreg
  rw [readAddr_eq_map]
  cases (regValues s)[a.toNat]? <;> rfl

end Sys2Proof.Machine

/-! What the operations do not read: the waiting words and the last response (logs 1 and 2), and the
generator that is not theirs (R27, R274). Each lemma says that an operation commutes with replacing
those fields. -/

namespace Sys2Proof.Machine

/-! ### `lfoStep` by cases -/

theorem lfoStep_of_freq_zero {s : State} (h : s.lfoFreq = 0) :
    lfoStep s = s.setLfoEngine 0 0 false := if_pos h

theorem lfoStep_of_freq_ne_zero {s : State} (h : s.lfoFreq ≠ 0) :
    lfoStep s = lfoAdvance (phaseUsed s.lfoFreq s.lfoPhase)
      (lfoWave (phaseUsed s.lfoFreq s.lfoPhase) s) := if_neg h

/-- Replace the two fields of the model's own: the waiting words and the last response. -/
def State.setIface (ws : List Word) (r : BitVec 16) (s : State) : State := (s.setPort ws).setResp r

section Iface

variable (ws : List Word) (r : BitVec 16) (s : State)

@[simp] theorem State.setIface_wsel : (s.setIface ws r).wsel = s.wsel := rfl
@[simp] theorem State.setIface_lfoFreq : (s.setIface ws r).lfoFreq = s.lfoFreq := rfl
@[simp] theorem State.setIface_lfoPhase : (s.setIface ws r).lfoPhase = s.lfoPhase := rfl
@[simp] theorem State.setIface_period : (s.setIface ws r).period = s.period := rfl
@[simp] theorem State.setIface_lfoWave : (s.setIface ws r).lfoWave = s.lfoWave := rfl

theorem State.setClock_setIface (p c : BitVec 16) :
    (s.setIface ws r).setClock p c = (s.setClock p c).setIface ws r := rfl

/-! ### The shared operations and the command port -/

theorem audioTick_setIface :
    audioTick (s.setIface ws r) = (audioTick s).map fun n => (n.1, n.2.setIface ws r) := by
  cases hc : wselClass s.wsel <;> simp only [audioTick, nextBit, State.setIface_wsel, hc] <;> rfl

theorem writePrngB_setIface (v : BitVec 16) :
    writePrngB v (s.setIface ws r) = (writePrngB v s).setIface ws r := by
  unfold writePrngB
  rw [apply_ite (State.setIface ws r)]
  rfl

theorem lfoRandom_setIface (p : Nat) :
    lfoRandom p (s.setIface ws r) = (lfoRandom p s).setIface ws r := by
  unfold lfoRandom
  split
  · rw [writePrngB_setIface]; rfl
  · rfl

theorem lfoWave_setIface (p : Nat) :
    lfoWave p (s.setIface ws r) = (lfoWave p s).setIface ws r := by
  cases hc : waveformOf s.lfoWave with
  | random => simpa only [lfoWave, State.setIface_lfoWave, hc] using lfoRandom_setIface ws r s p
  | _ => simp only [lfoWave, State.setIface_lfoWave, hc]; rfl

theorem lfoStep_setIface : lfoStep (s.setIface ws r) = (lfoStep s).setIface ws r := by
  by_cases hf : s.lfoFreq = 0
  · rw [lfoStep_of_freq_zero hf, lfoStep_of_freq_zero (s := s.setIface ws r) hf]
    rfl
  · rw [lfoStep_of_freq_ne_zero hf, lfoStep_of_freq_ne_zero (s := s.setIface ws r) hf,
      lfoWave_setIface, State.setIface_lfoFreq, State.setIface_lfoPhase]
    rfl

theorem envStep_setIface : envStep (s.setIface ws r) = (envStep s).setIface ws r := by
  unfold envStep
  rw [apply_ite (State.setIface ws r)]
  rfl

theorem resolvePitch_setIface :
    resolvePitch (s.setIface ws r) = (resolvePitch s).setIface ws r := by
  rw [resolvePitch_eq_setResolved, resolvePitch_eq_setResolved]
  rfl

theorem wselWrite_setIface (d : BitVec 16) :
    wselWrite d (s.setIface ws r) = (wselWrite d s).map (State.setIface ws r) := by
  have hs (n : BitVec 5) : selectSource n (s.setIface ws r) = (selectSource n s).setIface ws r := by
    unfold selectSource
    rw [apply_ite (State.setIface ws r)]
    rfl
  unfold wselWrite
  simp only [hs, apply_ite (Option.map (State.setIface ws r))]
  rfl

theorem writeReg_setIface (g : Reg) (d : BitVec 16) :
    writeReg g d (s.setIface ws r) = (writeReg g d s).map (State.setIface ws r) := by
  cases g with
  | wsel => exact wselWrite_setIface ws r s d
  | pitch =>
    simp only [writeReg, pitchWrite_eq_setPitch]
    rfl
  | _ => rfl

theorem writeAddr_setIface (a : BitVec 8) (d : BitVec 16) :
    writeAddr a d (s.setIface ws r) = (writeAddr a d s).map (State.setIface ws r) := by
  unfold writeAddr
  split
  · exact writeReg_setIface ws r s _ d
  · rfl

/-! ### Commands -/

/-- Apply a change to the next state, where there is one. -/
def Answer.onNext (f : State → State) : Answer → Answer
  | .next t => .next (f t)
  | .fault e => .fault e
  | .refused q => .refused q

theorem execWrreg_setIface (a : BitVec 8) (d : BitVec 16) :
    execWrreg a d (s.setIface ws r) = Answer.onNext (State.setPort ws) (execWrreg a d s) := by
  unfold execWrreg
  rw [writeAddr_setIface]
  cases writeAddr a d s <;> rfl

theorem execRdreg_setIface (a : BitVec 8) :
    execRdreg a (s.setIface ws r) = Answer.onNext (State.setPort ws) (execRdreg a s) := by
  have h : readAddr a (s.setIface ws r) = readAddr a s := by
    rw [readAddr_eq_map, readAddr_eq_map]; rfl
  unfold execRdreg
  rw [h]
  cases readAddr a s <;> rfl

theorem execTclk_setIface :
    execTclk (s.setIface ws r) = Answer.onNext (State.setPort ws) (execTclk s) := by
  have hf : tclkFire (s.setIface ws r) = Answer.onNext (State.setPort ws) (tclkFire s) := by
    unfold tclkFire
    rw [State.setIface_period, State.setClock_setIface, audioTick_setIface]
    cases audioTick (s.setClock s.period 0) <;> rfl
  unfold execTclk
  rw [hf, apply_ite (Answer.onNext (State.setPort ws))]
  rfl

theorem execAtick_setIface :
    execAtick (s.setIface ws r) = Answer.onNext (State.setPort ws) (execAtick s) := by
  unfold execAtick
  rw [audioTick_setIface]
  cases audioTick s <;> rfl

/-- What a command does depends on neither field, and it leaves the waiting words alone. -/
theorem exec_setIface (i : Instr) :
    exec i (s.setIface ws r) = Answer.onNext (State.setPort ws) (exec i s) := by
  cases i with
  | wrreg a d => exact execWrreg_setIface ws r s a d
  | rdreg a => exact execRdreg_setIface ws r s a
  | tclk => exact execTclk_setIface ws r s
  | atick => exact execAtick_setIface ws r s
  | lfostep => simp only [exec, execLfostep, lfoStep_setIface]; rfl
  | envstep => simp only [exec, execEnvstep, envStep_setIface]; rfl
  | resolve => simp only [exec, execResolve, resolvePitch_setIface]; rfl
  | ctick =>
    simp only [exec, execCtick, lfoStep_setIface, envStep_setIface, resolvePitch_setIface]; rfl
  | nop | poly | noise | patstep | noteon | noteoff | stop => rfl

end Iface

/-- Settles O11, one commuting lemma per shared operation. -/
theorem commandsIgnoreThePortAndTheResponse : Obligations.CommandsIgnoreThePortAndTheResponse := by
  intro i s ws r
  refine (exec_setIface ws r s i).trans ?_
  cases exec i s <;> rfl

/-! ### The generators -/

section Generators

variable {s : State} (v : BitVec 16)

theorem lfoRandom_setPrngA (hs : s.cfg.prngShared = false) (p : Nat) :
    lfoRandom p (s.setPrngA v) = (lfoRandom p s).setPrngA v := by
  unfold lfoRandom
  split
  · simp only [writePrngB, readPrngB, State.setPrngA_cfg, hs, Bool.false_eq_true, if_false]
    rfl
  · rfl

theorem lfoWave_setPrngA (hs : s.cfg.prngShared = false) (p : Nat) :
    lfoWave p (s.setPrngA v) = (lfoWave p s).setPrngA v := by
  cases hc : waveformOf s.lfoWave with
  | random => simpa only [lfoWave, State.setPrngA_lfoWave, hc] using lfoRandom_setPrngA v hs p
  | _ => simp only [lfoWave, State.setPrngA_lfoWave, hc]; rfl

theorem lfoStep_setPrngA (hs : s.cfg.prngShared = false) :
    lfoStep (s.setPrngA v) = (lfoStep s).setPrngA v := by
  by_cases hf : s.lfoFreq = 0
  · rw [lfoStep_of_freq_zero hf, lfoStep_of_freq_zero (s := s.setPrngA v) hf]
    rfl
  · rw [lfoStep_of_freq_ne_zero hf, lfoStep_of_freq_ne_zero (s := s.setPrngA v) hf,
      lfoWave_setPrngA v hs, State.setPrngA_lfoFreq, State.setPrngA_lfoPhase]
    rfl

theorem audioTick_setPrngB :
    audioTick (s.setPrngB v) = (audioTick s).map fun n => (n.1, n.2.setPrngB v) := by
  cases hc : wselClass s.wsel <;> simp only [audioTick, nextBit, State.setPrngB_wsel, hc] <;> rfl

theorem execAtick_setPrngB :
    execAtick (s.setPrngB v) = Answer.onNext (State.setPrngB v) (execAtick s) := by
  unfold execAtick
  rw [audioTick_setPrngB]
  cases audioTick s <;> rfl

/-- The draw at phase 0 with a shared generator steps PRNG_A and keeps the field of PRNG_B (R180,
R27). -/
theorem lfoStep_shared_draw (hs : s.cfg.prngShared = true) (hf : s.lfoFreq ≠ 0) (hw : s.lfoWave = 7)
    (hp : s.lfoPhase = 0) :
    (lfoStep s).prngA = prngNext s.prngA ∧ (lfoStep s).prngB = s.prngB := by
  have hr := (waveformOf_eq_random_iff _).mpr hw
  have h0 : phaseUsed s.lfoFreq s.lfoPhase = 0 := by simp [phaseUsed, hp]
  rw [lfoStep_of_freq_ne_zero hf, h0]
  simp only [lfoWave, hr, lfoRandom, if_true, readPrngB, writePrngB, hs]
  exact ⟨rfl, rfl⟩

end Generators

/-- Settles O51: LFOSTEP commutes with a change of PRNG_A that is not its own, NOISE and ATICK
with a change of PRNG_B, and a shared draw is the step of NOISE. -/
theorem generatorsAreIndependentUnlessShared :
    Obligations.GeneratorsAreIndependentUnlessShared := by
  intro s v
  refine ⟨fun hs => ⟨⟨_, rfl, ?_⟩, ⟨_, rfl, rfl⟩, fun t ht => ?_⟩, fun hs hf hw hp => ?_⟩
  · change execLfostep (s.setPrngA v) = _
    simp only [execLfostep, lfoStep_setPrngA v hs]
    rfl
  · change execAtick (s.setPrngB v) = _
    rw [execAtick_setPrngB, show execAtick s = .next t from ht]
    rfl
  · obtain ⟨hA, hB⟩ := lfoStep_shared_draw hs hf hw hp
    exact ⟨_, _, rfl, rfl, hA, hB⟩

end Sys2Proof.Machine

/-! Steps and runs of the command port (R60 to R62): a step from each kind of port, the completion of
every command and step under the invariant, and the run of a list of presented commands. -/

namespace Sys2Proof.Machine

variable {s t u : State} {i : Instr}

/-! ### A step by the port's oldest word -/

theorem step_of_port_nil (hp : s.port = []) : step s = .next s := by
  simp only [step, takeWord, hp, idle]

theorem step_of_decode_ok {w : Word} {ws : List Word} (hp : s.port = w :: ws)
    (hd : decode w = .ok i) : step s = exec i (s.setPort ws) := by
  simp only [step, takeWord, hp, hd]

theorem step_of_decode_error {w : Word} {ws : List Word} {e : Illegal} (hp : s.port = w :: ws)
    (hd : decode w = .error e) : step s = .next (reject (s.setPort ws)) := by
  simp only [step, takeWord, hp, hd]

/-- Settles O9: the record update of the statement is `setPort`. -/
theorem stepPerformsTheDecodedCommand : Obligations.StepPerformsTheDecodedCommand :=
  fun _ _ _ _ hp hd => step_of_decode_ok hp hd

/-! ### Completion

Only an audio tick can stop a command, and only where WSEL holds the reserved class (R130). -/

theorem audioTick_defined (h : wselClass s.wsel ≠ .reserved) : ∃ x t, audioTick s = .ok (x, t) := by
  obtain ⟨x, u, hu⟩ := nextBit_defined h
  exact ⟨x, gateOut x u, by simp only [audioTick, hu]⟩

theorem execTclk_completes (h : wselClass s.wsel ≠ .reserved) : ∃ t, execTclk s = .next t := by
  unfold execTclk
  split
  · obtain ⟨x, u, hu⟩ := audioTick_defined (s := s.setClock s.period 0) h
    exact ⟨_, by simp only [tclkFire, hu]; rfl⟩
  · exact ⟨_, rfl⟩

theorem execAtick_completes (h : wselClass s.wsel ≠ .reserved) : ∃ t, execAtick s = .next t := by
  obtain ⟨x, u, hu⟩ := audioTick_defined h
  exact ⟨_, by simp only [execAtick, hu]; rfl⟩

theorem execWrreg_completes (a : BitVec 8) (d : BitVec 16) (s : State) :
    ∃ t, execWrreg a d s = .next t := by
  unfold execWrreg
  split <;> exact ⟨_, rfl⟩

theorem execRdreg_completes (a : BitVec 8) (s : State) : ∃ t, execRdreg a s = .next t := by
  unfold execRdreg
  split <;> exact ⟨_, rfl⟩

theorem exec_completes (i : Instr) (h : wselClass s.wsel ≠ .reserved) : ∃ t, exec i s = .next t := by
  cases i with
  | wrreg a d => exact execWrreg_completes a d s
  | rdreg a => exact execRdreg_completes a s
  | tclk => exact execTclk_completes h
  | atick => exact execAtick_completes h
  | nop | poly | noise | patstep | lfostep | envstep | resolve | ctick | noteon | noteoff | stop =>
    exact ⟨_, rfl⟩

theorem step_completes (h : wselClass s.wsel ≠ .reserved) : ∃ t, step s = .next t := by
  cases hp : s.port with
  | nil => exact ⟨s, step_of_port_nil hp⟩
  | cons w ws =>
    cases hd : decode w with
    | ok i =>
      rw [step_of_decode_ok hp hd]
      exact exec_completes i h
    | error e => exact ⟨_, step_of_decode_error hp hd⟩

theorem runSteps_succ {n : Nat} (h : step s = .next t) : runSteps (n + 1) s = runSteps n t := by
  simp only [runSteps, h]

theorem StateInv.runSteps_completes (n : Nat) (h : StateInv s) : ∃ u, runSteps n s = .next u := by
  induction n generalizing s with
  | zero => exact ⟨s, rfl⟩
  | succ n ih =>
    obtain ⟨t, ht⟩ := step_completes h.wselDefined
    rw [runSteps_succ ht]
    exact ih (stepKeepsTheInvariant s t h ht)

/-- Settles O17: the invariant holds of every state a run reaches, and under it no step stops. -/
theorem runsFromPowerOnNeverStop : Obligations.RunsFromPowerOnNeverStop :=
  fun _ _ _ n h hr => (stateInv_of_reaches h hr).runSteps_completes n

/-! ### The word of a command decodes to it -/

/-- An operand in the low bits of D is read back, where it fits (R81). -/
theorem decodeLow_setWidth {n : Nat} (hn : n ≤ 16) (k : BitVec n → Instr) (v : BitVec n) :
    decodeLow n k 0 (v.setWidth 16) = .ok (k v) := by
  have hhigh : v.setWidth 16 >>> n = 0 := by
    apply BitVec.eq_of_getLsbD_eq
    intro j _
    simp
  have hlow : (v.setWidth 16).extractLsb' 0 n = v := by
    apply BitVec.eq_of_getLsbD_eq
    intro j hj
    simp [hj, show j < 16 by omega]
  simp only [decodeLow, hhigh, hlow, ne_eq, not_true_eq_false, if_false]

@[simp] theorem decode_encode (i : Instr) : decode (encode i) = .ok i := by
  rw [encode, decode_cmdWord]
  cases i with
  | poly k => exact decodeLow_setWidth (by decide) _ k
  | noteon n => exact decodeLow_setWidth (by decide) _ n
  | noteoff n => exact decodeLow_setWidth (by decide) _ n
  | _ => rfl

/-! ### Lists of commands -/

/-- `Performs is s t`: performing the commands `is` one after the other takes `s` to `t`. -/
inductive Performs : List Instr → State → State → Prop where
  | nil {s : State} : Performs [] s s
  | cons {i : Instr} {is : List Instr} {s t u : State} (he : exec i s = .next t)
      (hr : Performs is t u) : Performs (i :: is) s u

@[simp] theorem performs_nil_iff : Performs [] s t ↔ t = s :=
  ⟨fun h => by cases h; rfl, fun h => h ▸ .nil⟩

@[simp] theorem performs_singleton_iff : Performs [i] s t ↔ exec i s = .next t :=
  ⟨fun h => by cases h with | cons he hr => cases hr; exact he, fun h => .cons h .nil⟩

theorem Performs.append {is js : List Instr} (hi : Performs is s t) (hj : Performs js t u) :
    Performs (is ++ js) s u := by
  induction hi with
  | nil => exact hj
  | cons he _ ih => exact .cons he (ih hj)

theorem StateInv.performs (is : List Instr) (h : StateInv s) :
    ∃ t, StateInv t ∧ Performs is s t := by
  induction is generalizing s with
  | nil => exact ⟨s, h, .nil⟩
  | cons i is ih =>
    obtain ⟨t, ht⟩ := exec_completes i h.wselDefined
    obtain ⟨u, hu, hr⟩ := ih ((exec_effect ht).stateInv h)
    exact ⟨u, hu, .cons ht hr⟩

theorem setPort_of_port_eq {ws : List Word} (hp : s.port = ws) : s.setPort ws = s := by
  subst hp
  rfl

/-- A command leaves the waiting words alone (R60). -/
theorem exec_setPort (he : exec i s = .next t) (ws : List Word) :
    exec i (s.setPort ws) = .next (t.setPort ws) :=
  (exec_setIface ws s.resp s i).trans (congrArg _ he)

/-- Words presented to an empty port run as the commands they encode, one step each. -/
theorem Performs.runSteps_setPort {is : List Instr} (h : Performs is s t) (hp : s.port = []) :
    runSteps is.length (s.setPort (is.map encode)) = .next t := by
  induction h with
  | nil => exact congrArg _ (setPort_of_port_eq hp)
  | @cons i is s t u he _ ih =>
    have hstep : step (s.setPort ((i :: is).map encode)) = .next (t.setPort (is.map encode)) :=
      (step_of_decode_ok rfl (decode_encode i)).trans (exec_setPort he _)
    obtain ⟨-, hport, -⟩ := registersHaveFixedWriters i s t he
    exact (runSteps_succ hstep).trans (ih (hport.trans hp))

/-- Settles O12: each input is a list of at most one command, and the cycle's list is the four in
the order of R62. -/
theorem inputsOfOneCycleRunInOrder : Obligations.InputsOfOneCycleRunInOrder := by
  intro ⟨host, note, ctick, tclk⟩ s hs hp
  obtain ⟨h, hh, hostRun⟩ := hs.performs (host.map regAccessCmd).toList
  obtain ⟨n, hn, noteRun⟩ := hh.performs (note.map noteEventCmd).toList
  obtain ⟨k, hk, ctickRun⟩ := hn.performs (if ctick then [.ctick] else [])
  obtain ⟨t, -, tclkRun⟩ := hk.performs (if tclk then [.tclk] else [])
  refine ⟨h, n, k, t, ?_, ?_, ?_, ?_, ?_⟩
  · cases host <;> simpa using hostRun
  · cases note <;> simpa using noteRun
  · cases ctick <;> simpa using ctickRun
  · cases tclk <;> simpa using tclkRun
  · rw [presentCycle, present, hp]
    exact (((hostRun.append noteRun).append ctickRun).append tclkRun).runSteps_setPort hp

end Sys2Proof.Machine

/-! Writing a register again (R69): what a write refuses does not depend on the state, and a write that
is not refused changes nothing in the state it left. -/

namespace Sys2Proof.Machine

variable {s t : State}

/-! ### Refusal -/

theorem wselWrite_eq_none_iff (d : BitVec 16) (s : State) :
    wselWrite d s = none ↔ wselClass (d.extractLsb' 0 5) = .reserved := by
  by_cases hc : wselClass (d.extractLsb' 0 5) = .reserved
  · simp only [wselWrite, hc, if_true]
  · simp only [wselWrite, hc, if_false, iff_false]
    split <;> exact Option.some_ne_none _

theorem writeReg_eq_none_congr (r : Reg) (d : BitVec 16) (s t : State) :
    writeReg r d s = none ↔ writeReg r d t = none := by
  cases r with
  | wsel => exact (wselWrite_eq_none_iff d s).trans (wselWrite_eq_none_iff d t).symm
  | _ => simp only [writeReg, reduceCtorEq]

theorem writeAddr_eq_none_congr (a : BitVec 8) (d : BitVec 16) (s t : State) :
    writeAddr a d s = none ↔ writeAddr a d t = none := by
  unfold writeAddr
  split
  · exact writeReg_eq_none_congr _ d s t
  · rfl

/-! ### Repetition -/

theorem wselWrite_of_eq {d : BitVec 16} (hc : wselClass (d.extractLsb' 0 5) ≠ .reserved)
    (he : d.extractLsb' 0 5 = s.wsel) : wselWrite d s = some s := by
  simp only [wselWrite, if_neg hc, if_pos he]

theorem wselWrite_repeat {d : BitVec 16} (h : wselWrite d s = some t) : wselWrite d t = some t := by
  obtain ⟨hc, ⟨he, rfl⟩ | ⟨-, rfl⟩⟩ := wselWrite_cases h
  · exact h
  · obtain ⟨p, hp⟩ := selectSource_spec (d.extractLsb' 0 5) s
    exact wselWrite_of_eq hc (by rw [hp]; rfl)

theorem pitchWrite_repeat (d : BitVec 16) (s : State) :
    pitchWrite d (pitchWrite d s) = pitchWrite d s := by
  cases he : s.ext <;> simp [pitchWrite, he, State.setPitch]

theorem statusWrite_repeat (d : BitVec 16) (s : State) :
    statusWrite d (statusWrite d s) = statusWrite d s := by
  simp [statusWrite, State.setErrors]

theorem writeReg_repeat {r : Reg} {d : BitVec 16} (h : writeReg r d s = some t) :
    writeReg r d t = some t := by
  obtain ⟨rfl, hw⟩ | ⟨rfl, rfl⟩ | ⟨rfl, rfl⟩ | ⟨rfl, rfl⟩ | ⟨rfl, rfl⟩ | ⟨rfl, rfl⟩ | ⟨rfl, rfl⟩ |
    ⟨rfl, rfl⟩ := writeReg_cases h
  · exact wselWrite_repeat hw
  · exact congrArg some (pitchWrite_repeat d s)
  · rfl
  · rfl
  · rfl
  · rfl
  · rfl
  · exact congrArg some (statusWrite_repeat d s)

theorem writeAddr_repeat {a : BitVec 8} {d : BitVec 16} (h : writeAddr a d s = some t) :
    writeAddr a d t = some t := by
  obtain ⟨r, rfl, hr⟩ := writeAddr_cases h
  simpa only [writeAddr, regAt_regAddr] using writeReg_repeat hr

/-- Settles O24: a refused write is refused again and CMD_ERR is set already; any other leaves a state
that it keeps, whatever the response. -/
theorem repeatedWritesChangeNothingMore : Obligations.RepeatedWritesChangeNothingMore := by
  intro a d s
  change ∃ t, execWrreg a d s = .next t ∧ execWrreg a d t = .next t
  cases hw : writeAddr a d s with
  | none =>
    have hagain : writeAddr a d (reject s) = none := (writeAddr_eq_none_congr a d s _).mp hw
    exact ⟨reject s, by simp only [execWrreg, hw], by simp only [execWrreg, hagain]; rfl⟩
  | some t =>
    have hagain : writeAddr a d (respond 0 t) = some (respond 0 t) :=
      (writeAddr_setIface t.port 0 t a d).trans (congrArg _ (writeAddr_repeat hw))
    exact ⟨respond 0 t, by simp only [execWrreg, hw], by simp only [execWrreg, hagain]; rfl⟩

end Sys2Proof.Machine

/-! Command words (R80 to R86): the number a word is, the words that decode, the match and mask table,
and the words that are ILLEGAL. -/

namespace Sys2Proof.Machine

/-! ### The fields of a word as numbers -/

theorem cmdWord_toNat (op a : BitVec 8) (d : BitVec 16) :
    (cmdWord op a d).toNat = op.toNat * 16777216 + a.toNat * 65536 + d.toNat := by
  rw [cmdWord, BitVec.toNat_append, BitVec.toNat_append, ← Nat.shiftLeft_add_eq_or_of_lt d.isLt,
    ← Nat.shiftLeft_add_eq_or_of_lt a.isLt]
  omega

theorem toNat_eq_fields (w : Word) :
    w.toNat = (opField w).toNat * 16777216 + (addrField w).toNat * 65536 + (dataField w).toNat := by
  rw [← cmdWord_toNat, cmdWord_fields]

theorem opField_toNat (w : Word) : (opField w).toNat = w.toNat / 16777216 := by
  have := toNat_eq_fields w
  omega

theorem addrField_toNat (w : Word) : (addrField w).toNat = w.toNat / 65536 % 256 := by
  have := toNat_eq_fields w
  omega

theorem dataField_toNat (w : Word) : (dataField w).toNat = w.toNat % 65536 := by
  have := toNat_eq_fields w
  omega

/-! ### A word decodes to a command exactly where it is the command's word -/

/-- Settles O1. -/
theorem decodeOfEncodeIsTheCommand : Obligations.DecodeOfEncodeIsTheCommand := decode_encode

/-- A data field that is 0 above its low bits is those bits, zero-extended. -/
theorem setWidth_extractLsb'_of_high_zero {n : Nat} {d : BitVec 16} (h : d >>> n = 0) :
    (d.extractLsb' 0 n).setWidth 16 = d := by
  apply BitVec.eq_of_getLsbD_eq
  intro k hk
  by_cases hkn : k < n
  · simp [hk, hkn]
  · have hbit : (d >>> n).getLsbD (k - n) = false := by rw [h]; exact BitVec.getLsbD_zero
    rw [BitVec.getLsbD_ushiftRight, Nat.add_sub_cancel' (not_lt.mp hkn)] at hbit
    simp [hkn, hbit]

/-- The fields that decode to a command are the fields of its word (R83). -/
theorem fields_of_decodeFields_eq_ok {op a : BitVec 8} {d : BitVec 16} {i : Instr}
    (h : decodeFields op a d = .ok i) : op = i.opcode ∧ a = i.addr ∧ d = i.data := by
  unfold decodeFields at h
  split at h
  -- the rows with operands: WRREG, RDREG, then POLY, NOTEON and NOTEOFF
  case h_2 hop =>
    cases h
    exact ⟨BitVec.eq_of_toNat_eq hop, rfl, rfl⟩
  case h_3 hop =>
    obtain ⟨rfl, rfl⟩ := decodeRdreg_eq_ok h
    exact ⟨BitVec.eq_of_toNat_eq hop, rfl, rfl⟩
  case h_4 hop | h_13 hop | h_14 hop =>
    obtain ⟨rfl, hd, rfl⟩ := decodeLow_eq_ok h
    exact ⟨BitVec.eq_of_toNat_eq hop, rfl, (setWidth_extractLsb'_of_high_zero hd).symm⟩
  -- no row
  case h_16 => cases h
  all_goals
    rename_i hop
    obtain ⟨rfl, rfl, rfl⟩ := decodeBare_eq_ok h
    exact ⟨BitVec.eq_of_toNat_eq hop, rfl, rfl⟩

/-- Settles O2: the fields of the word are the fields of the command. -/
theorem encodeOfDecodeIsTheWord : Obligations.EncodeOfDecodeIsTheWord := by
  intro w i h
  obtain ⟨hop, ha, hd⟩ := fields_of_decodeFields_eq_ok h
  rw [encode, ← hop, ← ha, ← hd, cmdWord_fields]

theorem decode_eq_ok_iff {w : Word} {i : Instr} : decode w = .ok i ↔ w = encode i :=
  ⟨fun h => (encodeOfDecodeIsTheWord w i h).symm, fun h => h ▸ decode_encode i⟩

/-- Settles O6: each word is the encoding of its command. -/
theorem specWordsDecode : Obligations.SpecWordsDecode :=
  ⟨decode_encode .nop, decode_encode (.wrreg 0x06 0xABCD), decode_encode (.rdreg 0x10),
    decode_encode (.poly 5), decode_encode .tclk, decode_encode .ctick, decode_encode (.noteon 69)⟩

/-! ### Operands -/

theorem toNat_of_decode_eq_ok {w : Word} {i : Instr} (h : decode w = .ok i) :
    w.toNat = i.opcode.toNat * 16777216 + i.addr.toNat * 65536 + i.data.toNat := by
  rw [decode_eq_ok_iff.mp h, encode, cmdWord_toNat]

/-- An operand in the low `n` bits of D is the word modulo `2 ^ n`. -/
theorem operand_toNat_of_data {n : Nat} (hn : n ≤ 16) {w : Word} {i : Instr} {v : BitVec n}
    (h : decode w = .ok i) (hv : i.data = v.setWidth 16) : v.toNat = w.toNat % 2 ^ n := by
  have hw : w.toNat = 2 ^ 16 * (i.opcode.toNat * 256 + i.addr.toNat) + v.toNat := by
    rw [toNat_of_decode_eq_ok h, hv, BitVec.toNat_setWidth_of_le hn]
    omega
  have hdvd : 2 ^ n ∣ 2 ^ 16 * (i.opcode.toNat * 256 + i.addr.toNat) :=
    (Nat.pow_dvd_pow 2 hn).mul_right _
  rw [hw, Nat.add_mod, Nat.mod_eq_zero_of_dvd hdvd, Nat.zero_add, Nat.mod_mod,
    Nat.mod_eq_of_lt v.isLt]

/-- An A operand is `word[23:16]` (R81). -/
theorem addr_toNat_of_decode_eq_ok {w : Word} {i : Instr} (h : decode w = .ok i) :
    i.addr.toNat = w.toNat / 65536 % 256 := by
  have := toNat_of_decode_eq_ok h
  omega

/-- Settles O4: the word as a number is made of its operands as numbers. -/
theorem operandsAreTheirFields : Obligations.OperandsAreTheirFields := fun _ =>
  ⟨fun _ d h => ⟨addr_toNat_of_decode_eq_ok h,
      operand_toNat_of_data (n := 16) (by decide) h (BitVec.setWidth_eq d).symm⟩,
    fun _ h => addr_toNat_of_decode_eq_ok h,
    fun _ h => operand_toNat_of_data (n := 3) (by decide) h rfl,
    fun _ h => operand_toNat_of_data (n := 7) (by decide) h rfl,
    fun _ h => operand_toNat_of_data (n := 7) (by decide) h rfl⟩

/-! ### The match and mask table -/

/-- The rows of R84 by command: the per-command statements of `EncodeFollowsRow` in one. -/
theorem row_selects_encode (i : Instr) : i.row.selects (encode i) = true := by
  cases i with
  | wrreg a d => exact Laws.EncodeFollowsRow.wrreg a d
  | rdreg a => exact Laws.EncodeFollowsRow.rdreg a
  | poly k => exact Laws.EncodeFollowsRow.poly k
  | noteon n => exact Laws.EncodeFollowsRow.noteon n
  | noteoff n => exact Laws.EncodeFollowsRow.noteoff n
  | nop | noise | patstep | tclk | atick | lfostep | envstep | resolve | ctick | stop => rfl

theorem selects_iff (r : MatchRow) (w : Word) : r.selects w = true ↔ w &&& r.mask = r.pattern :=
  beq_iff_eq

theorem and_mask_of_decode_eq_ok {w : Word} {i : Instr} (h : decode w = .ok i) :
    w &&& i.row.mask = i.row.pattern := by
  rw [decode_eq_ok_iff.mp h]
  exact (selects_iff _ _).mp (row_selects_encode i)

/-- Where the mask is full, the match value is the command's one word. -/
theorem decode_iff_of_full_mask {i : Instr} (hm : i.row.mask = 0xFFFFFFFF#32) (w : Word) :
    decode w = .ok i ↔ w &&& 0xFFFFFFFF#32 = i.row.pattern := by
  have hand (v : Word) : v &&& 0xFFFFFFFF#32 = v := BitVec.and_allOnes
  have hword : encode i = i.row.pattern := by
    rw [← and_mask_of_decode_eq_ok (decode_encode i), hm, hand]
  rw [decode_eq_ok_iff, hword, hand]

/-- A word under a mask that fixes all of OP: a condition on each field. -/
theorem fields_of_and_mask {w : Word} {op am : BitVec 8} {dm : BitVec 16}
    (h : w &&& cmdWord 0xFF am dm = cmdWord op 0 0) :
    opField w = op ∧ addrField w &&& am = 0 ∧ dataField w &&& dm = 0 := by
  rw [← cmdWord_fields w, Laws.EncodeFollowsRow.and_cmdWord] at h
  have hop := congrArg opField h
  have ha := congrArg addrField h
  have hd := congrArg dataField h
  rw [opField_cmdWord, opField_cmdWord] at hop
  rw [addrField_cmdWord, addrField_cmdWord] at ha
  rw [dataField_cmdWord, dataField_cmdWord] at hd
  exact ⟨BitVec.and_allOnes.symm.trans hop, ha, hd⟩

/-- The mask of a low operand leaves exactly the bits above it. -/
theorem ushiftRight_eq_zero_of_and {w n : Nat} {d : BitVec w} (h : d &&& BitVec.allOnes w <<< n = 0) :
    d >>> n = 0 := by
  apply BitVec.eq_of_getLsbD_eq
  intro k hk
  by_cases hlt : n + k < w
  · have hbit := congrArg (BitVec.getLsbD · (n + k)) h
    simpa [hlt, hk] using hbit
  · simpa using BitVec.getLsbD_of_ge d (n + k) (not_lt.mp hlt)

theorem decodeLow_of_and_mask {n : Nat} (k : BitVec n → Instr) {a : BitVec 8} {d : BitVec 16}
    (ha : a &&& 0xFF = 0) (hd : d &&& BitVec.allOnes 16 <<< n = 0) :
    decodeLow n k a d = .ok (k (d.extractLsb' 0 n)) := by
  have ha0 : a = 0 := BitVec.and_allOnes.symm.trans ha
  simp only [decodeLow, ha0, ushiftRight_eq_zero_of_and hd, ne_eq, not_true_eq_false, if_false]

theorem decode_wrreg_iff (w : Word) :
    (∃ a d, decode w = .ok (.wrreg a d)) ↔ w &&& 0xFF000000#32 = 0x01000000#32 := by
  constructor
  · rintro ⟨a, d, h⟩
    exact and_mask_of_decode_eq_ok h
  · intro h
    obtain ⟨hop, -, -⟩ := fields_of_and_mask (op := 0x01) (am := 0) (dm := 0) h
    exact ⟨_, _, by rw [decode, hop]; rfl⟩

theorem decode_rdreg_iff (w : Word) :
    (∃ a, decode w = .ok (.rdreg a)) ↔ w &&& 0xFF00FFFF#32 = 0x02000000#32 := by
  constructor
  · rintro ⟨a, h⟩
    exact and_mask_of_decode_eq_ok h
  · intro h
    obtain ⟨hop, -, hd⟩ := fields_of_and_mask (op := 0x02) (am := 0) (dm := 0xFFFF) h
    have hd0 : dataField w = 0 := BitVec.and_allOnes.symm.trans hd
    exact ⟨_, by rw [decode, hop, hd0]; rfl⟩

/-- A row with an operand in the low `n` bits of D. -/
theorem decode_low_iff {n : Nat} {k : BitVec n → Instr} {op : BitVec 8}
    (hdec : ∀ a d, decodeFields op a d = decodeLow n k a d)
    (hrow : ∀ v, (k v).row = ⟨cmdWord op 0 0, cmdWord 0xFF 0xFF (BitVec.allOnes 16 <<< n)⟩)
    (w : Word) :
    (∃ v, decode w = .ok (k v)) ↔
      w &&& cmdWord 0xFF 0xFF (BitVec.allOnes 16 <<< n) = cmdWord op 0 0 := by
  constructor
  · rintro ⟨v, h⟩
    simpa only [hrow] using and_mask_of_decode_eq_ok h
  · intro h
    obtain ⟨hop, ha, hd⟩ := fields_of_and_mask h
    exact ⟨_, by rw [decode, hop, hdec, decodeLow_of_and_mask k ha hd]⟩

theorem decode_poly_iff (w : Word) :
    (∃ i, decode w = .ok (.poly i)) ↔ w &&& 0xFFFFFFF8#32 = 0x10000000#32 :=
  decode_low_iff (op := 0x10) (fun _ _ => rfl) (fun _ => rfl) w

theorem decode_noteon_iff (w : Word) :
    (∃ n, decode w = .ok (.noteon n)) ↔ w &&& 0xFFFFFF80#32 = 0x40000000#32 :=
  decode_low_iff (op := 0x40) (fun _ _ => rfl) (fun _ => rfl) w

theorem decode_noteoff_iff (w : Word) :
    (∃ n, decode w = .ok (.noteoff n)) ↔ w &&& 0xFFFFFF80#32 = 0x41000000#32 :=
  decode_low_iff (op := 0x41) (fun _ _ => rfl) (fun _ => rfl) w

/-- A word that a row selects decodes to a command of that row. -/
theorem exists_decode_of_selects {i : Instr} {w : Word} (h : i.row.selects w = true) :
    ∃ k, decode w = .ok k ∧ k.row = i.row := by
  rw [selects_iff] at h
  cases i with
  | wrreg =>
    obtain ⟨a, d, hk⟩ := (decode_wrreg_iff w).mpr h
    exact ⟨_, hk, rfl⟩
  | rdreg =>
    obtain ⟨a, hk⟩ := (decode_rdreg_iff w).mpr h
    exact ⟨_, hk, rfl⟩
  | poly =>
    obtain ⟨k, hk⟩ := (decode_poly_iff w).mpr h
    exact ⟨_, hk, rfl⟩
  | noteon =>
    obtain ⟨n, hk⟩ := (decode_noteon_iff w).mpr h
    exact ⟨_, hk, rfl⟩
  | noteoff =>
    obtain ⟨n, hk⟩ := (decode_noteoff_iff w).mpr h
    exact ⟨_, hk, rfl⟩
  | nop | noise | patstep | tclk | atick | lfostep | envstep | resolve | ctick | stop =>
    exact ⟨_, (decode_iff_of_full_mask rfl w).mpr h, rfl⟩

/-- Settles O3: two rows that select one word are the row of the command it decodes to. -/
theorem decodeFollowsTheMatchAndMaskTable : Obligations.DecodeFollowsTheMatchAndMaskTable := by
  constructor
  · intro w
    exact ⟨decode_iff_of_full_mask rfl w, decode_wrreg_iff w, decode_rdreg_iff w, decode_poly_iff w,
      decode_iff_of_full_mask rfl w, decode_iff_of_full_mask rfl w, decode_iff_of_full_mask rfl w,
      decode_iff_of_full_mask rfl w, decode_iff_of_full_mask rfl w, decode_iff_of_full_mask rfl w,
      decode_iff_of_full_mask rfl w, decode_iff_of_full_mask rfl w, decode_noteon_iff w,
      decode_noteoff_iff w, decode_iff_of_full_mask rfl w⟩
  · intro i j w hi hj
    obtain ⟨k, hk, hki⟩ := exists_decode_of_selects hi
    obtain ⟨l, hl, hlj⟩ := exists_decode_of_selects hj
    cases hk.symm.trans hl
    exact hki.symm.trans hlj

/-! ### ILLEGAL words -/

theorem decodeBare_error_iff (i : Instr) (a : BitVec 8) (d : BitVec 16) :
    (∃ e, decodeBare i a d = .error e) ↔ a ≠ 0 ∨ d ≠ 0 := by
  unfold decodeBare
  split
  · exact iff_of_true ⟨_, rfl⟩ (.inl ‹_›)
  · split
    · exact iff_of_true ⟨_, rfl⟩ (.inr ‹_›)
    · simp_all

theorem decodeLow_error_iff {n : Nat} (k : BitVec n → Instr) (a : BitVec 8) (d : BitVec 16) :
    (∃ e, decodeLow n k a d = .error e) ↔ a ≠ 0 ∨ d >>> n ≠ 0 := by
  unfold decodeLow
  split
  · exact iff_of_true ⟨_, rfl⟩ (.inl ‹_›)
  · split
    · exact iff_of_true ⟨_, rfl⟩ (.inr ‹_›)
    · simp_all

theorem decodeRdreg_error_iff (a : BitVec 8) (d : BitVec 16) :
    (∃ e, decodeRdreg a d = .error e) ↔ d ≠ 0 := by
  unfold decodeRdreg
  split <;> simp_all

theorem ushiftRight_ne_zero_iff (n : Nat) (d : BitVec 16) : d >>> n ≠ 0 ↔ d.toNat / 2 ^ n ≠ 0 := by
  rw [BitVec.toNat_ne, BitVec.toNat_ushiftRight, Nat.shiftRight_eq_div_pow]
  rfl

/-- The three cases of R86 on the fields of a word. -/
theorem decodeFields_error_iff (op a : BitVec 8) (d : BitVec 16) :
    (∃ e, decodeFields op a d = .error e) ↔
      (op.toNat ∉
          [0x00, 0x01, 0x02, 0x10, 0x11, 0x12, 0x20, 0x21, 0x30, 0x31, 0x32, 0x33, 0x40, 0x41, 0x42]) ∨
        (a.toNat ≠ 0 ∧ op.toNat ∉ [0x01, 0x02]) ∨
        (d.toNat ≠ 0 ∧ op.toNat ∈
          [0x00, 0x02, 0x11, 0x12, 0x20, 0x21, 0x30, 0x31, 0x32, 0x33, 0x42]) ∨
        (d.toNat / 8 ≠ 0 ∧ op.toNat = 0x10) ∨
        (d.toNat / 128 ≠ 0 ∧ op.toNat ∈ [0x40, 0x41]) := by
  unfold decodeFields
  split
  -- the rows with operands: WRREG, RDREG, then POLY, NOTEON and NOTEOFF
  case h_2 hop => simp [hop]
  case h_3 hop => rw [decodeRdreg_error_iff, BitVec.toNat_ne]; simp [hop]
  case h_4 hop | h_13 hop | h_14 hop =>
    rw [decodeLow_error_iff, BitVec.toNat_ne, ushiftRight_ne_zero_iff]; simp [hop]
  -- no row
  case h_16 => exact iff_of_true ⟨_, rfl⟩ (.inl (by simp_all))
  all_goals
    rename_i hop
    rw [decodeBare_error_iff, BitVec.toNat_ne, BitVec.toNat_ne]; simp [hop]

/-- Settles O5: the three cases on the fields, and `reject()` after taking the word. -/
theorem illegalWordsAreTheThreeCasesAndReject :
    Obligations.IllegalWordsAreTheThreeCasesAndReject := by
  intro w
  constructor
  · rw [← opField_toNat, ← addrField_toNat, ← dataField_toNat]
    exact decodeFields_error_iff _ _ _
  · intro s ws e hd hp
    exact step_of_decode_error hp hd

end Sys2Proof.Machine

/-! The operands an issuer may write (R89) and the pseudo-instructions (R90). -/

namespace Sys2Proof.Machine

/-! ### Source commands -/

theorem toInstr_eq_some_iff {c : SourceCmd} {i : Instr} :
    c.toInstr = some i ↔ c.wellFormed = true ∧ c.narrow = i := by
  simp only [SourceCmd.toInstr, Option.ite_none_right_eq_some, Option.some.injEq]

theorem toInstr_eq_none_iff {c : SourceCmd} : c.toInstr = none ↔ c.wellFormed = false := by
  simp only [SourceCmd.toInstr, ite_eq_right_iff, reduceCtorEq, imp_false, Bool.not_eq_true]

/-- An operand of a command fits its field. -/
theorem toSource_wellFormed (i : Instr) : i.toSource.wellFormed = true := by
  cases i with
  | wrreg a d =>
    exact Bool.and_eq_true_iff.mpr ⟨decide_eq_true (Nat.le_of_lt_succ a.isLt),
      decide_eq_true (Nat.le_of_lt_succ d.isLt)⟩
  | rdreg a => exact decide_eq_true (Nat.le_of_lt_succ a.isLt)
  | poly k => exact decide_eq_true (Nat.le_of_lt_succ k.isLt)
  | noteon n | noteoff n => exact decide_eq_true (Nat.le_of_lt_succ n.isLt)
  | nop | noise | patstep | tclk | atick | lfostep | envstep | resolve | ctick | stop => rfl

theorem narrow_toSource (i : Instr) : i.toSource.narrow = i := by
  cases i <;> simp only [Instr.toSource, SourceCmd.narrow, BitVec.ofNat_toNat, BitVec.setWidth_eq]

/-- Narrowing an operand that fits loses nothing of it. -/
theorem toNat_ofNat_of_fits {n b x : Nat} (hb : b < 2 ^ n) (hx : decide (x ≤ b) = true) :
    (BitVec.ofNat n x).toNat = x :=
  (BitVec.toNat_ofNat x n).trans (Nat.mod_eq_of_lt (lt_of_le_of_lt (of_decide_eq_true hx) hb))

theorem toSource_narrow {c : SourceCmd} (h : c.wellFormed = true) : c.narrow.toSource = c := by
  cases c with
  | wrreg a d =>
    obtain ⟨ha, hd⟩ := Bool.and_eq_true_iff.mp h
    exact congrArg₂ SourceCmd.wrreg (toNat_ofNat_of_fits (by decide) ha)
      (toNat_ofNat_of_fits (by decide) hd)
  | rdreg a => exact congrArg SourceCmd.rdreg (toNat_ofNat_of_fits (by decide) h)
  | poly k => exact congrArg SourceCmd.poly (toNat_ofNat_of_fits (by decide) h)
  | noteon n => exact congrArg SourceCmd.noteon (toNat_ofNat_of_fits (by decide) h)
  | noteoff n => exact congrArg SourceCmd.noteoff (toNat_ofNat_of_fits (by decide) h)
  | nop | noise | patstep | tclk | atick | lfostep | envstep | resolve | ctick | stop => rfl

/-- Settles O7: a source command is accepted exactly where its operands fit, and narrowing is then
undone by the source form. -/
theorem assemblerRefusesOperandsThatDoNotFit : Obligations.AssemblerRefusesOperandsThatDoNotFit := by
  refine ⟨fun i => toInstr_eq_some_iff.mpr ⟨toSource_wellFormed i, narrow_toSource i⟩, ?_, ?_, ?_, ?_,
    ?_, ?_⟩
  · intro c i h
    obtain ⟨hwf, rfl⟩ := toInstr_eq_some_iff.mp h
    exact toSource_narrow hwf
  · intro a d
    rw [toInstr_eq_none_iff]
    simp only [SourceCmd.wellFormed, addrFits, dataFits, Bool.and_eq_false_iff, decide_eq_false_iff_not,
      not_le]
  all_goals
    intro x
    rw [toInstr_eq_none_iff]
    simp only [SourceCmd.wellFormed, addrFits, idxFits, noteFits, decide_eq_false_iff_not, not_le]

/-! ### Pseudo-instructions -/

theorem expandPseudo_setwavePat {i : Nat} (hi : i ≤ 7) :
    expandPseudo (.setwavePat i) = some [writeTo .wsel i] := if_pos (decide_eq_true hi)

theorem expandPseudo_setwavePoly {i : Nat} (hi : i ≤ 7) :
    expandPseudo (.setwavePoly i) = some [writeTo .wsel (0x10 + i)] := if_pos (decide_eq_true hi)

/-- Settles O8: only the two selections with an index check it. -/
theorem pseudoInstructionsExpand : Obligations.PseudoInstructionsExpand :=
  ⟨fun _ hi => ⟨expandPseudo_setwavePat hi, expandPseudo_setwavePoly hi⟩, rfl, rfl, fun _ _ _ => rfl,
    fun _ _ => rfl, fun _ => rfl⟩

end Sys2Proof.Machine

/-! The commands refused by value (R87). -/

namespace Sys2Proof.Machine

variable {s t : State}

/-- The writes R87 refuses: to a reserved address, to an RO register (R47), of the reserved class to
WSEL. -/
def WriteRefused (a : BitVec 8) (d : BitVec 16) : Prop :=
  0x12 ≤ a.toNat ∨ a.toNat ∈ [0x01, 0x02, 0x03, 0x04, 0x09, 0x0A, 0x0D, 0x0E, 0x0F, 0x11] ∨
    (a.toNat = 0x00 ∧ d.toNat % 32 / 8 = 3)

theorem wselClass_eq_reserved_iff (w : BitVec 5) : wselClass w = .reserved ↔ w.toNat / 8 = 3 := by
  revert w; decide

theorem writeReg_eq_none_iff (r : Reg) (d : BitVec 16) (s : State) :
    writeReg r d s = none ↔ WriteRefused (regAddr r) d := by
  cases r with
  | wsel =>
    rw [writeReg, wselWrite_eq_none_iff, wselClass_eq_reserved_iff, BitVec.extractLsb'_toNat]
    simp [WriteRefused, regAddr]
  | pattern | prngA | prngB | poly | pitch | lfoFreq | lfoDepth | lfoWave | lfoDelta | lfoState
  | envFreq | envWidth | envPhase | period | count | status | lastNote =>
    simp [writeReg, WriteRefused, regAddr]

theorem writeAddr_eq_none_iff (a : BitVec 8) (d : BitVec 16) (s : State) :
    writeAddr a d s = none ↔ WriteRefused a d := by
  unfold writeAddr
  split
  · rename_i r hr
    rw [← regAddr_of_regAt hr]
    exact writeReg_eq_none_iff r d s
  · rename_i hr
    exact iff_of_true rfl (.inl ((regAt_eq_none_iff a).mp hr))

theorem readAddr_eq_none_iff (a : BitVec 8) (s : State) : readAddr a s = none ↔ 0x12 ≤ a.toNat := by
  rw [← Nat.lt_iff_add_one_le, ← regAt_eq_none_iff, readAddr]
  split <;> simp_all

theorem execWrreg_of_none {a : BitVec 8} {d : BitVec 16} (h : writeAddr a d s = none) :
    execWrreg a d s = .next (reject s) := by
  simp only [execWrreg, h]

theorem execRdreg_of_none {a : BitVec 8} (h : readAddr a s = none) :
    execRdreg a s = .next (reject s) := by
  simp only [execRdreg, h]

/-- Settles O23: of the ways a command can complete, only the two refusals set CMD_ERR. -/
theorem commandsRefusedByValue : Obligations.CommandsRefusedByValue := by
  refine ⟨fun s a d h => execWrreg_of_none ((writeAddr_eq_none_iff a d s).mpr h),
    fun s a h => execRdreg_of_none ((readAddr_eq_none_iff a s).mpr h), ?_⟩
  intro i s t h hs ht
  cases exec_effect h with
  | wrregRefused a d hw => exact .inl ⟨a, d, rfl, (writeAddr_eq_none_iff a d s).mp hw⟩
  | rdregRefused a hr => exact .inr ⟨a, rfl, (readAddr_eq_none_iff a s).mp hr⟩
  | _ => simp [hs, State.setResolved] at ht

end Sys2Proof.Machine

/-! Exact periods of iterated steps. One orbit that holds every value but the fixed point 0 has the
same period at each of its values (R114, R115, R116, R125). -/

namespace Sys2Proof.Machine

open Function

section Periods

variable {α β : Type} {f : α → α} {x v z : α}

/-- The form in which the statements give a period. -/
theorem recurs_exactly {n : ℕ} (h : minimalPeriod f x = n) :
    f^[n] x = x ∧ ∀ k, 0 < k → k < n → f^[k] x ≠ x := by
  subst h
  exact ⟨iterate_minimalPeriod, fun k hk hlt =>
    not_isPeriodicPt_of_pos_of_lt_minimalPeriod hk.ne' hlt⟩

/-- A period is minimal where its quotient by no prime factor is a period. -/
theorem minimalPeriod_eq_prod {ps : List ℕ} (hper : f^[ps.prod] x = x)
    (hprime : ∀ p ∈ ps, p.Prime) (hnot : ∀ p ∈ ps, f^[ps.prod / p] x ≠ x) :
    minimalPeriod f x = ps.prod := by
  obtain ⟨c, hc⟩ := IsPeriodicPt.minimalPeriod_dvd hper
  by_cases h1 : c = 1
  · rw [hc, h1, mul_one]
  · obtain ⟨q, hq, hqc⟩ := Nat.exists_prime_and_dvd h1
    obtain ⟨p, hp, hqp⟩ := hq.prime.dvd_prod_iff.mp (hc ▸ hqc.mul_left _)
    obtain rfl := (Nat.prime_dvd_prime_iff_eq hq (hprime p hp)).mp hqp
    refine absurd (isPeriodicPt_iff_minimalPeriod_dvd.mpr ?_) (hnot q hp)
    rw [hc, Nat.mul_div_assoc _ hqc]
    exact dvd_mul_right _ _

/-- Where the orbit of `x` holds every value but `z`, all of them have the period of `x`. -/
theorem minimalPeriod_eq_of_full_orbit [Finite α] (hz : ∀ y, y ≠ z → f y ≠ z) (hx : x ≠ z)
    (hfull : minimalPeriod f x + 1 = Nat.card α) (hv : v ≠ z) :
    minimalPeriod f v = minimalPeriod f x := by
  classical
  have := Fintype.ofFinite α
  have horbit : (Finset.range (minimalPeriod f x)).image (f^[·] x) = Finset.univ.erase z := by
    apply Finset.eq_of_subset_of_card_le
    · intro y hy
      obtain ⟨n, -, rfl⟩ := Finset.mem_image.mp hy
      exact Finset.mem_erase.mpr ⟨Iterate.rec (· ≠ z) hx hz n, Finset.mem_univ _⟩
    · rw [Finset.card_image_of_injOn (by simpa using iterate_injOn_Iio_minimalPeriod),
        Finset.card_range, Finset.card_erase_of_mem (Finset.mem_univ _), Finset.card_univ,
        ← Nat.card_eq_fintype_card, ← hfull, Nat.add_sub_cancel]
  have hmem := Finset.mem_erase.mpr ⟨hv, Finset.mem_univ v⟩
  rw [← horbit] at hmem
  obtain ⟨n, hn, rfl⟩ := Finset.mem_image.mp hmem
  have hpos := Nat.zero_lt_of_lt (Finset.mem_range.mp hn)
  exact minimalPeriod_apply_iterate (minimalPeriod_pos_iff_mem_periodicPts.mp hpos) n

/-- A faithful second picture of a step has the same periods. -/
theorem minimalPeriod_of_injective {g : β → β} {φ : α → β} (hφ : Injective φ)
    (h : Semiconj φ f g) (x : α) : minimalPeriod f x = minimalPeriod g (φ x) :=
  minimalPeriod_eq_minimalPeriod_iff.mpr fun n =>
    ⟨fun hx => hx.map h, fun hx => hφ (((h.iterate_right n).eq x).trans hx)⟩

/-- A pair whose second part steps on its own, each full turn of which changes the first part by `h`,
has the product of the two periods. -/
theorem minimalPeriod_coupled {f : α × β → α × β} {g : β → β} {h : α → α} {a : α} {b : β}
    (hsnd : Semiconj Prod.snd f g) (hturn : ∀ c, f^[minimalPeriod g b] (c, b) = (h c, b)) :
    minimalPeriod f (a, b) = minimalPeriod g b * minimalPeriod h a := by
  have hturns (m : ℕ) : f^[minimalPeriod g b * m] (a, b) = (h^[m] a, b) := by
    induction m with
    | zero => rfl
    | succ m ih =>
      rw [Nat.mul_succ, Nat.add_comm, iterate_add_apply, ih, hturn, iterate_succ_apply']
  apply Nat.dvd_antisymm
  · apply IsPeriodicPt.minimalPeriod_dvd
    rw [IsPeriodicPt, IsFixedPt, hturns, iterate_minimalPeriod]
  · have hg : IsPeriodicPt g (minimalPeriod f (a, b)) b :=
      (isPeriodicPt_minimalPeriod f (a, b)).map hsnd
    obtain ⟨m, hm⟩ := hg.minimalPeriod_dvd
    have hh : IsPeriodicPt h m a := by
      have hback := iterate_minimalPeriod (f := f) (x := (a, b))
      rw [hm, hturns] at hback
      exact congrArg Prod.fst hback
    rw [hm]
    exact Nat.mul_dvd_mul_left _ hh.minimalPeriod_dvd

theorem natCard_bitVec (n : ℕ) : Nat.card (BitVec n) = 2 ^ n := by
  rw [Nat.card_congr BitVec.equivFin.toEquiv, Nat.card_fin]

end Periods

/-! ### Far steps

A step that respects XOR is a multiplication by X on the values, read as polynomials in X. A product
of two values then adds their numbers of steps, so a far step needs few products. -/

section FarSteps

variable {w : ℕ} {f : BitVec w → BitVec w} {e : BitVec w}

/-- The XOR of `f^[i] b` over the places `i` at which `cs` holds a 1 (Horner's scheme). -/
def stepSum (f : BitVec w → BitVec w) : List Bool → BitVec w → BitVec w
  | [], _ => 0
  | c :: cs, b => (if c then b else 0) ^^^ f (stepSum f cs b)

theorem stepSum_apply (hf : ∀ a b, f (a ^^^ b) = f a ^^^ f b) (cs : List Bool) (b : BitVec w) :
    stepSum f cs (f b) = f (stepSum f cs b) := by
  have hzero : f 0 = 0 := by simpa using hf 0 0
  induction cs with
  | nil => exact hzero.symm
  | cons c cs ih => rw [stepSum, stepSum, ih, hf, apply_ite f, hzero]

/-- Where `cs` are the coordinates in `e, f e, f (f e), …` of the value after `n` steps from `e`, the
same combination from the value after `m` steps is the value after `m + n`. -/
theorem iterate_add_of_coords (hf : ∀ a b, f (a ^^^ b) = f a ^^^ f b) {m n : ℕ} {a b : BitVec w}
    {cs : List Bool} (hcs : stepSum f cs e = a) (ha : f^[n] e = a) (hb : f^[m] e = b) :
    f^[m + n] e = stepSum f cs b := by
  subst hb
  induction m with
  | zero => rw [Nat.zero_add, iterate_zero_apply, ha, hcs]
  | succ m ih => rw [Nat.succ_add, iterate_succ_apply', ih, iterate_succ_apply', stepSum_apply hf]

end FarSteps

end Sys2Proof.Machine

/-! The pseudo-random source (R112 to R114). -/

namespace Sys2Proof.Machine

open Function

theorem bitWord_eq_ite (b : Bool) : bitWord b = if b then 1 else 0 := by cases b <;> rfl

/-- `prng_next` on numbers: the shift halves (R112). -/
theorem prngNext_toNat (v : BitVec 16) :
    (prngNext v).toNat = v.toNat / 2 ^^^ (if v.toNat % 2 = 1 then 0xB400 else 0x0000) := by
  have hbit : v.getLsbD 0 = decide (v.toNat % 2 = 1) := Nat.testBit_zero v.toNat
  rw [prngNext, BitVec.toNat_xor, BitVec.toNat_ushiftRight, Nat.shiftRight_one, hbit,
    apply_ite BitVec.toNat]
  simp

/-- Settles O33: `prng_next` as a number, and NOISE through `noiseStep`. -/
theorem noiseStepsTheGenerator : Obligations.NoiseStepsTheGenerator := by
  refine ⟨prngNext_toNat, rfl, fun s v hv => ?_⟩
  subst hv
  rw [← bitWord_eq_ite]
  rfl

/-! ### The period -/

theorem prngNext_xor (a b : BitVec 16) : prngNext (a ^^^ b) = prngNext a ^^^ prngNext b := by
  have hfeedback (t : BitVec 16) (x y : Bool) :
      (if x ^^ y then t else 0#16) = (if x then t else 0#16) ^^^ (if y then t else 0#16) := by
    cases x <;> cases y <;> simp
  unfold prngNext
  rw [BitVec.getLsbD_xor, BitVec.ushiftRight_xor_distrib, hfeedback]
  ac_rfl

/-- The coordinates of a value in the steps from 0x8000: its bits from the top, since the 1 of 0x8000
moves down one place a step. -/
def prngCoords (a : BitVec 16) : List Bool := (List.range 16).map a.getMsbD

theorem stepSum_prngNext_getMsbD {cs : List Bool} (hcs : cs.length ≤ 16) {i : ℕ} (hi : i < 16) :
    (stepSum prngNext cs 0x8000#16).getMsbD i = cs.getD i false := by
  have hlow : ∀ i < 15, (0x8000#16).getMsbD (i + 1) = false := by decide
  induction cs generalizing i with
  | nil => simp [stepSum]
  | cons c cs ih =>
    have hlen : cs.length ≤ 15 := Nat.le_of_succ_le_succ hcs
    have h0 : (stepSum prngNext cs 0x8000#16).getLsbD 0 = false := by
      simpa [BitVec.getMsbD, List.getElem?_eq_none hlen] using ih (by omega) (i := 15) (by omega)
    rw [stepSum, prngNext_of_bit0_false h0, BitVec.getMsbD_xor, BitVec.getMsbD_ushiftRight]
    cases i with
    | zero => cases c <;> rfl
    | succ i =>
      have hc : (if c then 0x8000#16 else 0).getMsbD (i + 1) = false := by
        cases c
        · exact BitVec.getMsbD_zero
        · exact hlow i (Nat.lt_of_succ_lt_succ hi)
      rw [hc]
      simpa [hi] using ih (by omega) (i := i) (by omega)

theorem stepSum_prngCoords (a : BitVec 16) : stepSum prngNext (prngCoords a) 0x8000#16 = a := by
  apply BitVec.eq_of_getMsbD_eq
  intro i hi
  rw [stepSum_prngNext_getMsbD (by simp [prngCoords]) hi]
  simp [prngCoords, hi]

/-- The product that adds numbers of steps from 0x8000 (`prng_iterate_add`). -/
def prngMul (a b : BitVec 16) : BitVec 16 := stepSum prngNext (prngCoords a) b

theorem prng_iterate_add {m n : ℕ} {a b : BitVec 16} (ha : prngNext^[n] 0x8000#16 = a)
    (hb : prngNext^[m] 0x8000#16 = b) : prngNext^[m + n] 0x8000#16 = prngMul a b :=
  iterate_add_of_coords prngNext_xor (stepSum_prngCoords a) ha hb

theorem prng_iterate_mul_two_pow {n : ℕ} {a : BitVec 16} (k : ℕ)
    (ha : prngNext^[n] 0x8000#16 = a) :
    prngNext^[n * 2 ^ k] 0x8000#16 = (fun b => prngMul b b)^[k] a := by
  induction k with
  | zero => simpa using ha
  | succ k ih =>
    rw [Nat.pow_succ, ← Nat.mul_assoc, Nat.mul_two, prng_iterate_add ih ih, iterate_succ_apply']

/-- `65535 = 3 * 5 * 17 * 257`; the way there goes by `257 = 2^8 + 1` and `4369 = 17 * 257`. -/
theorem minimalPeriod_prngNext_top : minimalPeriod prngNext 0x8000#16 = 65535 := by
  have h16 : prngNext^[16] 0x8000#16 = 0xB400 := by decide
  have h256 : prngNext^[256] 0x8000#16 = 0x5180 :=
    (prng_iterate_mul_two_pow 4 h16).trans (by decide)
  have h257 : prngNext^[257] 0x8000#16 = 0x28C0 := by
    rw [iterate_succ_apply', h256]
    decide
  have h4112 : prngNext^[4112] 0x8000#16 = 0x8BC9 :=
    (prng_iterate_mul_two_pow 4 h257).trans (by decide)
  have h4369 : prngNext^[4369] 0x8000#16 = 0xF03C := (prng_iterate_add h257 h4112).trans (by decide)
  have h8738 : prngNext^[8738] 0x8000#16 = 0xA309 :=
    (prng_iterate_add h4369 h4369).trans (by decide)
  have h13107 : prngNext^[13107] 0x8000#16 = 0x5F61 :=
    (prng_iterate_add h8738 h4369).trans (by decide)
  have h21845 : prngNext^[21845] 0x8000#16 = 0x5335 :=
    (prng_iterate_add h13107 h8738).trans (by decide)
  have h43690 : prngNext^[43690] 0x8000#16 = 0xD335 :=
    (prng_iterate_add h21845 h21845).trans (by decide)
  have h65535 : prngNext^[65535] 0x8000#16 = 0x8000 :=
    (prng_iterate_add h43690 h21845).trans (by decide)
  have h255 : prngNext^[255] 0x8000#16 ≠ 0x8000 := fun h =>
    absurd ((iterate_succ_apply' prngNext 255 _).symm.trans h256) (by rw [h]; decide)
  have h3855 : prngNext^[3855] 0x8000#16 ≠ 0x8000 := fun h =>
    absurd ((prng_iterate_add h257 h).symm.trans h4112) (by decide)
  refine minimalPeriod_eq_prod (ps := [3, 5, 17, 257]) h65535 (by norm_num) ?_
  simp only [List.forall_mem_cons, List.prod_cons, List.prod_nil, Nat.reduceMul, Nat.reduceDiv]
  exact ⟨h21845.trans_ne (by decide), h13107.trans_ne (by decide), h3855, h255,
    List.forall_mem_nil _⟩

theorem minimalPeriod_prngNext {v : BitVec 16} (hv : v ≠ 0) : minimalPeriod prngNext v = 65535 := by
  refine (minimalPeriod_eq_of_full_orbit (fun _ => prngNext_ne_zero) (by decide) ?_ hv).trans
    minimalPeriod_prngNext_top
  rw [minimalPeriod_prngNext_top, natCard_bitVec]
  rfl

/-- Settles O34: 0x8000 runs through all nonzero values in one orbit. -/
theorem generatorHasFullPeriod : Obligations.GeneratorHasFullPeriod := by
  intro v hv
  obtain ⟨hback, hnot⟩ := recurs_exactly (minimalPeriod_prngNext hv)
  exact ⟨hback, fun n hn hlt =>
    ⟨hnot n hn hlt, Iterate.rec (· ≠ 0) hv (fun _ => prngNext_ne_zero) n⟩⟩

end Sys2Proof.Machine

/-! The fixed bit-pattern source (R110, R111). -/

namespace Sys2Proof.Machine

open Function

variable {s : State}

/-- Each bit moves to the next lower place, bit 0 to bit 15 (R110). -/
theorem getLsbD_rotateRight1 (v : BitVec 16) {k : ℕ} (hk : k < 16) :
    (rotateRight1 v).getLsbD k = v.getLsbD ((k + 1) % 16) := by
  rw [rotateRight1, BitVec.getLsbD_append]
  by_cases h : k < 15
  · simp [h, Nat.mod_eq_of_lt (show k + 1 < 16 by omega), Nat.add_comm]
  · obtain rfl : k = 15 := by omega
    simp

theorem rotateRight1_eq_rotateRight (v : BitVec 16) : rotateRight1 v = v.rotateRight 1 := by
  apply BitVec.eq_of_getLsbD_eq
  intro k hk
  rw [getLsbD_rotateRight1 v hk, BitVec.getLsbD_rotateRight]
  by_cases h : k < 15
  · simp [h, Nat.mod_eq_of_lt (show k + 1 < 16 by omega), Nat.add_comm]
  · obtain rfl : k = 15 := by omega
    simp

theorem getLsbD_iterate_rotateRight1 (n : ℕ) (v : BitVec 16) {k : ℕ} (hk : k < 16) :
    (rotateRight1^[n] v).getLsbD k = v.getLsbD ((k + n) % 16) := by
  induction n generalizing v with
  | zero => rw [iterate_zero_apply, Nat.add_zero, Nat.mod_eq_of_lt hk]
  | succ n ih =>
    rw [iterate_succ_apply, ih, getLsbD_rotateRight1 v (Nat.mod_lt _ (by decide)), Nat.mod_add_mod,
      Nat.add_assoc]

theorem exec_patstep (s : State) : exec .patstep s =
    .next { s with pattern := rotateRight1 s.pattern, resp := bitWord (s.pattern.getLsbD 0) } := rfl

/-- PATSTEP words from the port rotate once each, and the last one answers (R60, R110). -/
theorem runSteps_patstep (n : ℕ) {ws : List Word}
    (hp : s.port = List.replicate (n + 1) (encode .patstep) ++ ws) :
    runSteps (n + 1) s = .next { s with
      pattern := rotateRight1^[n + 1] s.pattern
      port := ws
      resp := bitWord ((rotateRight1^[n] s.pattern).getLsbD 0) } := by
  have hstep := (step_of_decode_ok hp (decode_encode _)).trans (exec_patstep _)
  induction n generalizing s with
  | zero => exact runSteps_succ hstep
  | succ n ih =>
    rw [runSteps_succ hstep]
    exact ih rfl ((step_of_decode_ok rfl (decode_encode _)).trans (exec_patstep _))

/-- Settles O32: after `n` rotations bit 0 is bit `n` of the start, and 16 are a full turn. -/
theorem patstepRotatesThePattern : Obligations.PatstepRotatesThePattern := by
  constructor
  · intro s
    refine ⟨rotateRight1 s.pattern, fun k hk => getLsbD_rotateRight1 _ hk, ?_⟩
    rw [exec_patstep, bitWord_eq_ite]
  · intro s ws hp
    constructor
    · intro k hk
      have hsplit : s.port = List.replicate (k + 1) 0x12000000#32 ++
          (List.replicate (15 - k) 0x12000000#32 ++ ws) := by
        rw [hp, ← List.append_assoc, ← List.replicate_add, show k + 1 + (15 - k) = 16 by omega]
      refine ⟨_, runSteps_patstep k hsplit, ?_⟩
      rw [bitWord_eq_ite, getLsbD_iterate_rotateRight1 k _ (by decide), Nat.zero_add,
        Nat.mod_eq_of_lt hk]
    · refine ⟨_, runSteps_patstep 15 hp, ?_, rfl⟩
      apply BitVec.eq_of_getLsbD_eq
      intro k hk
      rw [getLsbD_iterate_rotateRight1 16 _ hk, Nat.add_mod_right, Nat.mod_eq_of_lt hk]

end Sys2Proof.Machine

/-! The poly bank (R115 to R129). -/

namespace Sys2Proof.Machine

open Function

variable {s : State}

/-! ### The registers as numbers -/

/-- A left shift by one place that takes in a bit (R115, R116, R125, R126). -/
theorem shiftIn_toNat {w n : ℕ} (v : BitVec w) (c : Bool) :
    (v.extractLsb' 0 n ++ BitVec.ofBool c).toNat = 2 * (v.toNat % 2 ^ n) + c.toNat := by
  rw [BitVec.toNat_append, ← Nat.shiftLeft_add_eq_or_of_lt (BitVec.ofBool c).isLt, Nat.shiftLeft_eq]
  simp [Nat.mul_comm]

theorem xor_toNat (a b : Bool) : (a ^^ b).toNat = if a = b then 0 else 1 := by
  cases a <;> cases b <;> rfl

/-- `{R4, R5}` as a number (R125). -/
theorem polyPair_toNat (a : BitVec 4) (b : BitVec 5) :
    (a ++ b).toNat = a.toNat * 32 + b.toNat := by
  rw [BitVec.toNat_append, ← Nat.shiftLeft_add_eq_or_of_lt b.isLt, Nat.shiftLeft_eq]

theorem getLsbD_three_eq_decide (a : BitVec 4) : a.getLsbD 3 = decide (8 ≤ a.toNat) := by
  revert a; decide

theorem getLsbD_four_toNat (b : BitVec 5) : (b.getLsbD 4).toNat = b.toNat / 16 := by
  revert b; decide

/-! ### The tap functions -/

theorem t4_toNat (r : BitVec 4) :
    (t4 r).toNat = 2 * (r.toNat % 8) + if r.getLsbD 3 = r.getLsbD 2 then 0 else 1 := by
  rw [t4, ← xor_toNat]
  exact shiftIn_toNat r _

theorem t5_toNat (r : BitVec 5) :
    (t5 r).toNat = 2 * (r.toNat % 16) + if r.getLsbD 4 = r.getLsbD 2 then 0 else 1 := by
  rw [t5, ← xor_toNat]
  exact shiftIn_toNat r _

@[simp] theorem t4_zero : t4 0#4 = 0#4 := rfl

@[simp] theorem t5_zero : t5 0#5 = 0#5 := rfl

theorem t4_ne_zero : ∀ r : BitVec 4, r ≠ 0 → t4 r ≠ 0 := by decide

theorem t5_ne_zero : ∀ r : BitVec 5, r ≠ 0 → t5 r ≠ 0 := by decide

theorem minimalPeriod_t4 {r : BitVec 4} (hr : r ≠ 0) : minimalPeriod t4 r = 15 := by
  have h1 : minimalPeriod t4 1 = 15 :=
    minimalPeriod_eq_prod (ps := [3, 5]) (by decide) (by norm_num) (by decide)
  refine (minimalPeriod_eq_of_full_orbit t4_ne_zero (by decide) ?_ hr).trans h1
  rw [h1, natCard_bitVec]
  rfl

theorem minimalPeriod_t5 {r : BitVec 5} (hr : r ≠ 0) : minimalPeriod t5 r = 31 := by
  have h31 : t5^[31] 1 = 1 := by
    rw [iterate_add_apply t5 15 16, show t5^[16] 1 = 0x18 by decide]
    decide
  have h1 : minimalPeriod t5 1 = 31 :=
    minimalPeriod_eq_prod (ps := [31]) h31 (by norm_num) (by decide)
  refine (minimalPeriod_eq_of_full_orbit t5_ne_zero (by decide) ?_ hr).trans h1
  rw [h1, natCard_bitVec]
  rfl

/-- Settles O35: each tap function runs through all nonzero values in one orbit. -/
theorem tapFunctionsAreMaximalLength : Obligations.TapFunctionsAreMaximalLength :=
  ⟨t4_toNat, fun _ hr => recurs_exactly (minimalPeriod_t4 hr), t4_zero,
    t5_toNat, fun _ hr => recurs_exactly (minimalPeriod_t5 hr), t5_zero⟩

/-! ### POLY -/

/-- POLY by what its rule gives (R118, R127). -/
theorem exec_poly_eq {i : BitVec 3} {a : BitVec 4} {b : BitVec 5}
    (h : polyRuleNext (polyRuleAt s.cfg i) s.r4 s.r5 = (a, b)) :
    exec (.poly i) s = .next { s with r4 := a, r5 := b, resp := if a.getLsbD 3 then 1 else 0 } := by
  change Host.Outcome.next (respond (bitWord (polyStep i s).1) (polyStep i s).2) = _
  simp only [polyStep, h, bitWord_eq_ite]
  rfl

theorem givenNext_toNat (next : Vector PolyPair 512) (a : BitVec 4) (b : BitVec 5) :
    (givenNext next a b).1.toNat * 32 + (givenNext next a b).2.toNat =
      (next.get (Fin.ofNat 512 (a.toNat * 32 + b.toNat))).toNat := by
  have hindex : (a ++ b).toFin = Fin.ofNat 512 (a.toNat * 32 + b.toNat) := by
    rw [← polyPair_toNat]
    exact Fin.ext (Nat.mod_eq_of_lt (a ++ b).isLt).symm
  have hlt := (next.get (a ++ b).toFin).isLt
  simp only [givenNext, hindex, BitVec.extractLsb'_toNat, Nat.shiftRight_eq_div_pow] at hlt ⊢
  omega

/-- Settles O36: bit 3 of R4 is its top half, and a table's entry is cut into the pair it packs. -/
theorem polyAppliesTheRuleOfItsIndex : Obligations.PolyAppliesTheRuleOfItsIndex := by
  refine ⟨fun s i a b h => ?_, givenNext_toNat⟩
  have hindex : Fin.ofNat 8 i.toNat = i.toFin := Fin.ext (Nat.mod_eq_of_lt i.isLt)
  rw [hindex] at h
  simpa only [getLsbD_three_eq_decide, decide_eq_true_eq] using exec_poly_eq h

/-- Under the default rules POLY i applies the body of R119 + i (R11). -/
theorem exec_poly_default {i : BitVec 3} {a : BitVec 4} {b : BitVec 5}
    (hd : s.cfg.polyRules = Config.defaultPolyRules)
    (h : polyRuleNext (Config.defaultPolyRules.get i.toFin) s.r4 s.r5 = (a, b)) :
    exec (.poly i) s = .next { s with r4 := a, r5 := b, resp := if a.getLsbD 3 then 1 else 0 } :=
  exec_poly_eq (by rw [polyRuleAt, hd, h])

/-! ### The coupled rules -/

theorem condA_eq_decide (r : BitVec 5) : condA r = decide (r.toNat % 16 = 8) := by
  revert r; decide

theorem condB_eq_decide (r : BitVec 5) : condB r = decide (16 ≤ r.toNat) := by
  revert r; decide

theorem div2_eq_not (a : BitVec 4) : div2 a = ~~~a := by
  revert a; decide

/-- The response of a divided R4 (R122, R127). -/
theorem div2_response (a : BitVec 4) :
    (if (div2 a).getLsbD 3 then 1 else 0 : BitVec 16) = if a.getLsbD 3 then 0 else 1 := by
  revert a; decide

/-- A rule that always steps R5 and changes R4 where the condition holds (R120, R121, R123, R124). -/
theorem exec_poly_coupled {i : BitVec 3} {c : Bool} {a : BitVec 4}
    (hd : s.cfg.polyRules = Config.defaultPolyRules)
    (h : polyRuleNext (Config.defaultPolyRules.get i.toFin) s.r4 s.r5 =
      (if c then a else s.r4, t5 s.r5)) :
    (c = true → exec (.poly i) s =
      .next { s with r4 := a, r5 := t5 s.r5, resp := if a.getLsbD 3 then 1 else 0 }) ∧
    (c = false → exec (.poly i) s =
      .next { s with r5 := t5 s.r5, resp := if s.r4.getLsbD 3 then 1 else 0 }) := by
  constructor
  · rintro rfl
    exact exec_poly_default hd h
  · rintro rfl
    exact exec_poly_default hd h

/-- Settles O37: rules 0 and 3 by their body, the four coupled rules by their condition. -/
theorem firstSixPolyRules : Obligations.FirstSixPolyRules := by
  intro s hd
  obtain ⟨hit1, miss1⟩ := exec_poly_coupled (i := 1) hd rfl
  obtain ⟨hit2, miss2⟩ := exec_poly_coupled (i := 2) hd rfl
  obtain ⟨hit4, miss4⟩ := exec_poly_coupled (i := 4) hd rfl
  obtain ⟨hit5, miss5⟩ := exec_poly_coupled (i := 5) hd rfl
  have h3 := exec_poly_default (i := 3) hd rfl
  simp only [condA_eq_decide, condB_eq_decide, decide_eq_true_eq, decide_eq_false_iff_not, not_le]
    at hit1 miss1 hit2 miss2 hit4 miss4 hit5 miss5
  rw [div2_response, div2_eq_not] at hit4 hit5 h3
  exact ⟨exec_poly_default hd rfl, ⟨hit1, miss1⟩, ⟨hit2, miss2⟩, h3, ⟨hit4, miss4⟩, hit5, miss5⟩

/-- A rule as a step of the pair `(R4, R5)`. -/
def polyPairNext (r : PolyRule) (q : BitVec 4 × BitVec 5) : BitVec 4 × BitVec 5 :=
  polyRuleNext r q.1 q.2

/-- In one turn of R5 condition A holds twice (R120). -/
theorem tap5CondATap4_turn (a : BitVec 4) :
    (polyPairNext .tap5CondATap4)^[31] (a, 0x1F) = (t4^[2] a, 0x1F) := by
  have h16 : ∀ a, (polyPairNext .tap5CondATap4)^[16] (a, 0x1F) = (t4^[2] a, 0x08) := by decide
  have h15 : ∀ a, (polyPairNext .tap5CondATap4)^[15] (a, 0x08) = (a, 0x1F) := by decide
  rw [iterate_add_apply _ 15 16, h16, h15]

/-- In one turn of R5 condition B holds 16 times (R121). -/
theorem tap5CondBTap4_turn (a : BitVec 4) :
    (polyPairNext .tap5CondBTap4)^[31] (a, 0x1F) = (t4^[16] a, 0x1F) := by
  have h16 : ∀ a, (polyPairNext .tap5CondBTap4)^[16] (a, 0x1F) = (t4^[10] a, 0x08) := by decide
  have h15 : ∀ a, (polyPairNext .tap5CondBTap4)^[15] (a, 0x08) = (t4^[6] a, 0x1F) := by decide
  rw [iterate_add_apply _ 15 16, h16, h15, ← iterate_add_apply]

/-- A rule that steps R5 by `t5`, and R4 by `t4` a number of times in each turn of R5 that is prime to
15, has period `31 * 15`. -/
theorem minimalPeriod_of_turn {r : PolyRule} {k : ℕ} (hk : Nat.Coprime 15 k)
    (hsnd : Semiconj Prod.snd (polyPairNext r) t5)
    (hturn : ∀ a, (polyPairNext r)^[31] (a, 0x1F) = (t4^[k] a, 0x1F)) :
    minimalPeriod (polyPairNext r) (0xF, 0x1F) = 465 := by
  have h5 : minimalPeriod t5 0x1F = 31 := minimalPeriod_t5 (by decide)
  have h4 : minimalPeriod t4 0xF = 15 := minimalPeriod_t4 (by decide)
  have hpow : minimalPeriod t4^[k] 0xF = 15 := by
    rw [minimalPeriod_iterate_eq_div_gcd' (minimalPeriod_pos_iff_mem_periodicPts.mp (by omega)), h4,
      hk.gcd_eq_one]
  rw [minimalPeriod_coupled hsnd (by rwa [h5]), h5, hpow]

/-- Settles O40: 2 and 16 are prime to 15. -/
theorem coupledTapRulesHavePeriod465 : Obligations.CoupledTapRulesHavePeriod465 := by
  rintro r (rfl | rfl)
  · exact recurs_exactly (minimalPeriod_of_turn (by decide) (fun _ => rfl) tap5CondATap4_turn)
  · exact recurs_exactly (minimalPeriod_of_turn (by decide) (fun _ => rfl) tap5CondBTap4_turn)

/-! ### The joint shift -/

/-- The shift of R125 on the one register `P = {R4, R5}`. -/
def shift9 (p : PolyPair) : PolyPair :=
  p.extractLsb' 0 8 ++ BitVec.ofBool (p.getLsbD 8 ^^ p.getLsbD 4)

theorem shift9_toNat (p : PolyPair) :
    (shift9 p).toNat = 2 * (p.toNat % 256) + (p.getLsbD 8 ^^ p.getLsbD 4).toNat :=
  shiftIn_toNat p _

theorem polyPair_getLsbD_eight (a : BitVec 4) (b : BitVec 5) :
    (a ++ b).getLsbD 8 = a.getLsbD 3 := BitVec.getLsbD_append

theorem polyPair_getLsbD_four (a : BitVec 4) (b : BitVec 5) :
    (a ++ b).getLsbD 4 = b.getLsbD 4 := BitVec.getLsbD_append

theorem poly9Next_eq_shift9 (a : BitVec 4) (b : BitVec 5) :
    (poly9Next a b).1 ++ (poly9Next a b).2 = shift9 (a ++ b) := by
  apply BitVec.eq_of_toNat_eq
  rw [polyPair_toNat, shift9_toNat, polyPair_getLsbD_eight, polyPair_getLsbD_four, polyPair_toNat,
    poly9Next, shiftIn_toNat, shiftIn_toNat, getLsbD_four_toNat]
  omega

theorem shift9_xor (a b : PolyPair) : shift9 (a ^^^ b) = shift9 a ^^^ shift9 b := by
  unfold shift9
  rw [BitVec.xor_append, ← BitVec.extractLsb'_xor, BitVec.ofBool_xor_ofBool, BitVec.getLsbD_xor,
    BitVec.getLsbD_xor, Bool.xor_assoc, Bool.xor_assoc, Bool.xor_left_comm (b.getLsbD 8)]

/-- The coordinates of a value in the steps from 1, which are 1, 2, 4, 8, 0x10, 0x21, 0x42, 0x84 and
0x108. -/
def shift9Coords (a : PolyPair) : List Bool :=
  [a.getLsbD 0 ^^ a.getLsbD 5, a.getLsbD 1 ^^ a.getLsbD 6, a.getLsbD 2 ^^ a.getLsbD 7,
    a.getLsbD 3 ^^ a.getLsbD 8, a.getLsbD 4, a.getLsbD 5, a.getLsbD 6, a.getLsbD 7, a.getLsbD 8]

theorem shift9_iterate_add {m n : ℕ} {a b : PolyPair}
    (ha : shift9^[n] 1 = a) (hcs : stepSum shift9 (shift9Coords a) 1 = a) (hb : shift9^[m] 1 = b) :
    shift9^[m + n] 1 = stepSum shift9 (shift9Coords a) b :=
  iterate_add_of_coords shift9_xor hcs ha hb

/-- `511 = 7 * 73`. -/
theorem minimalPeriod_shift9_one : minimalPeriod shift9 1 = 511 := by
  have h24 : shift9^[24] 1 = 0x072 := by decide
  have h48 : shift9^[48] 1 = 0x1A6 := (shift9_iterate_add h24 (by decide) h24).trans (by decide)
  have h72 : shift9^[72] 1 = 0x0AD := (shift9_iterate_add h24 (by decide) h48).trans (by decide)
  have h73 : shift9^[73] 1 = 0x15A := by
    rw [iterate_succ_apply', h72]
    decide
  have h146 : shift9^[146] 1 = 0x146 := (shift9_iterate_add h73 (by decide) h73).trans (by decide)
  have h219 : shift9^[219] 1 = 0x15B := (shift9_iterate_add h73 (by decide) h146).trans (by decide)
  have h438 : shift9^[438] 1 = 0x147 := (shift9_iterate_add h219 (by decide) h219).trans (by decide)
  have h511 : shift9^[511] 1 = 1 := (shift9_iterate_add h73 (by decide) h438).trans (by decide)
  refine minimalPeriod_eq_prod (ps := [7, 73]) h511 (by norm_num) ?_
  simp only [List.forall_mem_cons, List.prod_cons, List.prod_nil, Nat.reduceMul, Nat.reduceDiv]
  exact ⟨h73.trans_ne (by decide), by decide, List.forall_mem_nil _⟩

theorem shift9_ne_zero {p : PolyPair} (hp : p ≠ 0) : shift9 p ≠ 0 := by
  revert p; decide

theorem minimalPeriod_shift9 {p : PolyPair} (hp : p ≠ 0) : minimalPeriod shift9 p = 511 := by
  refine (minimalPeriod_eq_of_full_orbit (fun _ => shift9_ne_zero) (by decide) ?_ hp).trans
    minimalPeriod_shift9_one
  rw [minimalPeriod_shift9_one, natCard_bitVec]
  rfl

theorem polyPair_injective : Injective fun q : BitVec 4 × BitVec 5 => q.1 ++ q.2 := by
  intro p q h
  have hnat := congrArg BitVec.toNat h
  simp only [polyPair_toNat] at hnat
  have := p.2.isLt
  have := q.2.isLt
  exact Prod.ext (BitVec.eq_of_toNat_eq (by omega)) (BitVec.eq_of_toNat_eq (by omega))

theorem minimalPeriod_poly9 {p : BitVec 4 × BitVec 5} (hp : p ≠ (0, 0)) :
    minimalPeriod (polyPairNext .poly9) p = 511 := by
  have hpicture : Semiconj (fun q => q.1 ++ q.2) (polyPairNext .poly9) shift9 :=
    fun q => poly9Next_eq_shift9 q.1 q.2
  rw [minimalPeriod_of_injective polyPair_injective hpicture]
  exact minimalPeriod_shift9 fun h => hp (polyPair_injective h)

/-- Settles O38: the rule is the shift of the packed register. -/
theorem polyNineShiftsOneNineBitRegister : Obligations.PolyNineShiftsOneNineBitRegister := by
  refine ⟨fun s hd => ⟨_, _, exec_poly_default (i := 6) hd rfl, ?_⟩,
    fun p hp => recurs_exactly (minimalPeriod_poly9 hp), rfl⟩
  have hshift := congrArg BitVec.toNat (poly9Next_eq_shift9 s.r4 s.r5)
  rwa [shift9_toNat, polyPair_getLsbD_eight, polyPair_getLsbD_four, xor_toNat, polyPair_toNat,
    polyPair_toNat] at hshift

/-! ### The delay line -/

/-- The delay line moves each bit of R4 up by one place (R126). -/
theorem poly5Next_fst_getLsbD_succ (a : BitVec 4) (b : BitVec 5) {k : ℕ} (hk : k < 3) :
    (poly5Next a b).1.getLsbD (k + 1) = a.getLsbD k := by
  rw [poly5Next, BitVec.getLsbD_append]
  simp [hk]

/-- The bit that leaves R5 enters R4 (R126). -/
theorem poly5Next_fst_getLsbD_zero (a : BitVec 4) (b : BitVec 5) :
    (poly5Next a b).1.getLsbD 0 = b.getLsbD 4 := by
  rw [poly5Next, BitVec.getLsbD_append]
  simp

theorem poly5_delay (p : BitVec 4 × BitVec 5) :
    ((polyPairNext .poly5)^[4] p).1.getLsbD 3 = p.2.getLsbD 4 := by
  have hmove (n k : ℕ) (hk : k < 3) : ((polyPairNext .poly5)^[n + 1] p).1.getLsbD (k + 1) =
      ((polyPairNext .poly5)^[n] p).1.getLsbD k := by
    rw [iterate_succ_apply']
    exact poly5Next_fst_getLsbD_succ _ _ hk
  rw [hmove 3 2 (by decide), hmove 2 1 (by decide), hmove 1 0 (by decide)]
  exact poly5Next_fst_getLsbD_zero p.1 p.2

/-- The value at step 4 recurs with the period of R5. -/
theorem poly5_recurs_from_four :
    IsPeriodicPt (polyPairNext .poly5) 31 ((polyPairNext .poly5)^[4] (0xF, 0x1F)) := by
  have h4 : (polyPairNext .poly5)^[4] (0xF, 0x1F) = (0xF, 0x11) := by decide
  have h20 : (polyPairNext .poly5)^[16] (0xF, 0x11) = (0x4, 0x04) := by decide
  rw [IsPeriodicPt, IsFixedPt, h4, iterate_add_apply _ 15 16, h20]
  decide

/-- The value at step 3 does not: after one turn of R5, R4 holds what R5 let out, not its seed. -/
theorem poly5_not_recurs_from_three :
    ¬ IsPeriodicPt (polyPairNext .poly5) 31 ((polyPairNext .poly5)^[3] (0xF, 0x1F)) := by
  have h3 : (polyPairNext .poly5)^[3] (0xF, 0x1F) = (0xF, 0x18) := by decide
  have h19 : (polyPairNext .poly5)^[16] (0xF, 0x18) = (0xA, 0x02) := by decide
  rw [IsPeriodicPt, IsFixedPt, h3, iterate_add_apply _ 15 16, h19]
  decide

/-- A value before step 4 that recurred would lie on the cycle, and step 3 with it. -/
theorem poly5_not_periodic_before_four {m n : ℕ} (hm : m < 4) (hn : 0 < n) :
    ¬ IsPeriodicPt (polyPairNext .poly5) n ((polyPairNext .poly5)^[m] (0xF, 0x1F)) := by
  intro h
  have h3 := h.apply_iterate (3 - m)
  rw [← iterate_add_apply, Nat.sub_add_cancel (Nat.le_of_lt_succ hm)] at h3
  have hcycle := mk_mem_periodicPts hn h3
  refine poly5_not_recurs_from_three ?_
  refine isPeriodicPt_of_mem_periodicPts_of_isPeriodicPt_iterate hcycle (n := 1) ?_
  rw [← iterate_add_apply]
  exact poly5_recurs_from_four

/-- Settles O39: the pair enters its cycle when the delay line has lost the seed of R4. -/
theorem polyFiveIsADelayLine : Obligations.PolyFiveIsADelayLine := by
  refine ⟨fun s hd => ⟨_, exec_poly_default (i := 7) hd rfl, ?_⟩, poly5_delay, fun m hm => ?_,
    fun m hm n hn h => poly5_not_periodic_before_four hm hn ?_⟩
  · exact (shiftIn_toNat s.r4 _).trans (congrArg _ (getLsbD_four_toNat s.r5))
  · have h := poly5_recurs_from_four.apply_iterate (m - 4)
    rw [← iterate_add_apply, Nat.sub_add_cancel hm] at h
    rw [Nat.add_comm, iterate_add_apply]
    exact h
  · rw [Nat.add_comm, iterate_add_apply] at h
    exact h

/-! ### Lock-up -/

theorem polyRuleNext_keeps_r4_zero {r : PolyRule}
    (hr : r ∈ [PolyRule.tap4, .tap5CondATap4, .tap5CondBTap4]) (b : BitVec 5) :
    (polyRuleNext r 0 b).1 = 0 := by
  simp only [List.mem_cons, List.not_mem_nil, or_false] at hr
  obtain rfl | rfl | rfl := hr <;> simp [polyRuleNext]

theorem polyRuleNext_keeps_r5_zero {r : PolyRule}
    (hr : r ∈ [PolyRule.tap5CondATap4, .tap5CondBTap4, .tap5CondADiv2, .tap5CondBDiv2, .poly5])
    (a : BitVec 4) : (polyRuleNext r a 0).2 = 0 := by
  simp only [List.mem_cons, List.not_mem_nil, or_false] at hr
  obtain rfl | rfl | rfl | rfl | rfl := hr <;> exact t5_zero

/-- Settles O41: a rule keeps a register at 0 where one step does; the first zeros are computed. -/
theorem polyLockUp : Obligations.PolyLockUp := by
  refine ⟨fun r hr b n => ?_, fun r hr a n => ?_, by decide, by decide, by decide⟩
  · refine Iterate.rec (fun q : BitVec 4 × BitVec 5 => q.1 = 0) rfl (fun q hq => ?_) n
    obtain ⟨_, c⟩ := q
    subst hq
    exact polyRuleNext_keeps_r4_zero hr c
  · refine Iterate.rec (fun q : BitVec 4 × BitVec 5 => q.2 = 0) rfl (fun q hq => ?_) n
    obtain ⟨c, _⟩ := q
    subst hq
    exact polyRuleNext_keeps_r5_zero hr c

end Sys2Proof.Machine

/-! Source selection and the audio tick (R130, R151, R152). -/

namespace Sys2Proof.Machine

variable {s t : State}

theorem twoBits_eq_ofNat (hi lo : Bool) :
    twoBits hi lo = BitVec.ofNat 16 (2 * hi.toNat + lo.toNat) := by
  cases hi <;> cases lo <;> rfl

theorem wselIdx_toFin (w : BitVec 5) : (wselIdx w).toFin = Fin.ofNat 8 w.toNat := by
  revert w; decide

theorem nextBit_of_pattern (h : wselClass s.wsel = .pattern) : nextBit s = .ok (patStep s) := by
  simp only [nextBit, h]

theorem nextBit_of_noise (h : wselClass s.wsel = .noise) : nextBit s = .ok (noiseStep s) := by
  simp only [nextBit, h]

theorem nextBit_of_poly (h : wselClass s.wsel = .poly) :
    nextBit s = .ok (polyStep (wselIdx s.wsel) s) := by
  simp only [nextBit, h]

theorem audioTick_of_reserved (h : wselClass s.wsel = .reserved) :
    audioTick s = .error .reservedClass := by
  simp only [audioTick, nextBit, h]

/-- ATICK by the bit of the selected source (R151). -/
theorem execAtick_of_nextBit {x : Bool} (h : nextBit s = .ok (x, t)) :
    execAtick s =
      .next { t with
        out := x && t.envGate && t.noteOn
        resp := BitVec.ofNat 16 (2 * x.toNat + (x && t.envGate && t.noteOn).toNat) } := by
  rw [← twoBits_eq_ofNat]
  simp only [execAtick, audioTick, h]
  rfl

/-- Settles O42, by the bit of each class. -/
theorem atickTakesOneBitAndGatesIt : Obligations.AtickTakesOneBitAndGatesIt := by
  refine fun s => ⟨fun hc o ho => ?_, fun hc o ho => ?_, fun hc a b o hn ho => ?_⟩
  · subst ho
    rw [← rotateRight1_eq_rotateRight]
    exact execAtick_of_nextBit (nextBit_of_pattern ((wselClass_eq_pattern_iff _).mpr hc))
  · subst ho
    exact execAtick_of_nextBit (nextBit_of_noise ((wselClass_eq_noise_iff _).mpr hc))
  · subst ho
    rw [← wselIdx_toFin] at hn
    have hstep : polyStep (wselIdx s.wsel) s = (a.getLsbD 3, s.setPoly a b) := by
      simp only [polyStep, polyRuleAt, hn]
    have hbit := nextBit_of_poly ((wselClass_eq_poly_iff _).mpr hc)
    exact execAtick_of_nextBit (hbit.trans (congrArg _ hstep))

/-- Settles O43: a TCLK that fires is stopped by the same audio tick. -/
theorem reservedClassStopsTheAudioTick : Obligations.ReservedClassStopsTheAudioTick := by
  intro s hw
  have hc := (wselClass_eq_reserved_iff s.wsel).mpr hw
  constructor
  · change execAtick s = _
    rw [execAtick, audioTick_of_reserved hc]
  · intro hm
    change execTclk s = _
    rw [execTclk, if_pos hm, tclkFire, audioTick_of_reserved (s := s.setClock s.period 0) hc]

end Sys2Proof.Machine

/-! The audio sample clock (R150, R153, R155). -/

namespace Sys2Proof.Machine

variable {s t : State}

/-! ### OUT -/

/-- Only an audio tick drives OUT (R151, R153). -/
theorem exec_changes_out {i : Instr} (h : exec i s = .next t) (ho : t.out ≠ s.out) :
    i = .atick ∨ (i = .tclk ∧ s.count = s.period) := by
  cases exec_effect h with
  | atick => exact .inl rfl
  | tclkFire o r hc hs => exact .inr ⟨rfl, hc⟩
  | _ => simp [State.setResolved] at ho

/-- Settles O22: neither idling nor `reject()` writes OUT, so a command does. -/
theorem audioOutChangesOnlyInAudioTicks : Obligations.AudioOutChangesOnlyInAudioTicks := by
  intro s t h ho
  obtain ⟨-, rfl⟩ | ⟨w, ws, hp, ⟨i, hi, he⟩ | ⟨e, -, rfl⟩⟩ := step_cases h
  · exact absurd rfl ho
  · obtain rfl | ⟨rfl, hc⟩ := exec_changes_out he ho
    · exact ⟨w, ws, hp, .inl hi⟩
    · exact ⟨w, ws, hp, .inr ⟨hi, hc⟩⟩
  · exact absurd rfl ho

/-! ### TCLK -/

/-- An audio tick neither reads nor writes COUNT. -/
theorem audioTick_setCount (c : BitVec 16) (s : State) :
    audioTick (s.setClock s.period c) =
      (audioTick s).map fun n => (n.1, n.2.setClock n.2.period c) := by
  cases hc : wselClass s.wsel <;> simp only [audioTick, nextBit, State.setClock_wsel, hc] <;> rfl

/-- What a TCLK on a match makes of the state that ATICK leaves (R150). -/
def State.fired (s : State) : State :=
  { s with count := 0, resp := BitVec.ofNat 16 (2 * s.out.toNat + 1) }

theorem State.fired_eq_set (s : State) :
    s.fired = (s.setClock s.period 0).setResp (twoBits s.out true) := by
  rw [twoBits_eq_ofNat]
  rfl

/-- TCLK on a match is ATICK, but for COUNT and the response (R150, R151). -/
theorem tclkFire_eq_onNext_fired (s : State) :
    tclkFire s = Answer.onNext State.fired (execAtick s) := by
  unfold tclkFire execAtick
  rw [audioTick_setCount]
  cases audioTick s with
  | ok n => exact congrArg Host.Outcome.next (State.fired_eq_set (n.2.setResp _)).symm
  | error e => rfl

theorem exec_tclk_of_match (hm : s.count = s.period) (h : exec .atick s = .next t) :
    exec .tclk s = .next t.fired := by
  have htclk : exec .tclk s = Answer.onNext State.fired (exec .atick s) :=
    (if_pos hm).trans (tclkFire_eq_onNext_fired s)
  rw [htclk, h]
  rfl

/-- The state after `k` TCLKs that only counted, with `ws` left on the port. -/
def State.counted (ws : List Word) (k : ℕ) (s : State) : State :=
  { s with
    count := BitVec.ofNat 16 (s.count.toNat + k)
    port := ws
    resp := BitVec.ofNat 16 (2 * s.out.toNat) }

@[simp] theorem State.counted_period (ws : List Word) (k : ℕ) (s : State) :
    (s.counted ws k).period = s.period := rfl

theorem State.counted_counted (vs ws : List Word) (j k : ℕ) (s : State) :
    (s.counted vs j).counted ws k = s.counted ws (j + k) := by
  simp only [State.counted, BitVec.ofNat_add, BitVec.ofNat_toNat, BitVec.setWidth_eq, add_assoc]

/-- Up to PERIOD the count does not wrap (R155). -/
theorem State.counted_count_toNat (ws : List Word) {k : ℕ}
    (h : s.count.toNat + k ≤ s.period.toNat) :
    (s.counted ws k).count.toNat = s.count.toNat + k :=
  Nat.mod_eq_of_lt (h.trans_lt s.period.isLt)

theorem exec_tclk_of_ne (hne : s.count ≠ s.period) :
    exec .tclk s = .next (s.counted s.port 1) := by
  have hcount : s.count + 1 = BitVec.ofNat 16 (s.count.toNat + 1) := by
    rw [BitVec.ofNat_add, BitVec.ofNat_toNat, BitVec.setWidth_eq]
    rfl
  change execTclk s = _
  rw [execTclk, if_neg hne, tclkCount, hcount, twoBits_eq_ofNat]
  rfl

/-- Settles O44: without a match the record update is `counted`, on a match it is `fired`. -/
theorem tclkCountsAndFires : Obligations.TclkCountsAndFires := by
  refine fun s => ⟨exec_tclk_of_ne, fun hm hw => ?_⟩
  obtain ⟨t, ht⟩ := exec_completes .atick (mt (wselClass_eq_reserved_iff s.wsel).mp hw)
  exact ⟨t, ht, exec_tclk_of_match hm ht⟩

/-! ### Runs of TCLKs -/

theorem step_tclk_counts {ws : List Word} (hlt : s.count.toNat < s.period.toNat)
    (hp : s.port = encode .tclk :: ws) : step s = .next (s.counted ws 1) := by
  have hne : s.count ≠ s.period := fun he => hlt.ne (congrArg BitVec.toNat he)
  exact (step_of_decode_ok hp (decode_encode _)).trans (exec_tclk_of_ne (s := s.setPort ws) hne)

theorem runSteps_tclk_counts (k : ℕ) {ws : List Word}
    (hlt : s.count.toNat + k < s.period.toNat)
    (hp : s.port = List.replicate (k + 1) (encode .tclk) ++ ws) :
    runSteps (k + 1) s = .next (s.counted ws (k + 1)) := by
  induction k generalizing s with
  | zero => exact runSteps_succ (step_tclk_counts hlt hp)
  | succ k ih =>
    rw [runSteps_succ (step_tclk_counts (by omega) hp)]
    refine (ih (s := s.counted _ 1) ?_ rfl).trans ?_
    · rw [State.counted_count_toNat _ (by omega), State.counted_period]
      omega
    · rw [State.counted_counted, Nat.add_comm 1]

/-- An audio tick leaves PERIOD and the waiting words alone (R151). -/
theorem exec_atick_frame (h : exec .atick s = .next t) :
    t.period = s.period ∧ t.port = s.port := by
  cases exec_effect h with
  | atick => exact ⟨rfl, rfl⟩

/-- What a TCLK on a match leaves besides the source and OUT, for PERIOD `n` and `ws` still waiting. -/
def FiredWith (n : BitVec 16) (ws : List Word) (t : State) : Prop :=
  t.count = 0 ∧ t.period = n ∧ t.port = ws ∧ t.resp = BitVec.ofNat 16 (2 * t.out.toNat + 1)

theorem step_tclk_fires {ws : List Word} (hw : wselClass s.wsel ≠ .reserved)
    (hm : s.count = s.period) (hp : s.port = encode .tclk :: ws) :
    ∃ t, step s = .next t ∧ FiredWith s.period ws t := by
  obtain ⟨t, ht⟩ := exec_completes (s := s.setPort ws) .atick hw
  obtain ⟨hperiod, hport⟩ := exec_atick_frame ht
  refine ⟨t.fired, ?_, rfl, hperiod, hport, rfl⟩
  rw [step_of_decode_ok hp (decode_encode _)]
  exact exec_tclk_of_match hm ht

/-- Each TCLK below PERIOD brings the match one nearer, so the tick comes (R150, R155). -/
theorem runSteps_tclk_fires (n : ℕ) {ws : List Word} (hw : wselClass s.wsel ≠ .reserved)
    (hn : s.count.toNat + n = s.period.toNat)
    (hp : s.port = List.replicate (n + 1) (encode .tclk) ++ ws) :
    ∃ t, runSteps (n + 1) s = .next t ∧ FiredWith s.period ws t := by
  induction n generalizing s with
  | zero =>
    obtain ⟨t, ht, hfired⟩ := step_tclk_fires hw (BitVec.eq_of_toNat_eq hn) hp
    exact ⟨t, runSteps_succ ht, hfired⟩
  | succ n ih =>
    rw [runSteps_succ (step_tclk_counts (by omega) hp)]
    refine ih (s := s.counted _ 1) hw ?_ rfl
    rw [State.counted_count_toNat _ (by omega), State.counted_period]
    omega

/-- Settles O45, by the run that counts and the run that fires. -/
theorem nextTickComesWithinPeriodPlusOneTclks :
    Obligations.NextTickComesWithinPeriodPlusOneTclks := by
  intro s ws n hw hn hp
  constructor
  · intro k hpos hk
    obtain ⟨k, rfl⟩ := Nat.exists_eq_succ_of_ne_zero hpos.ne'
    have hsplit : s.port = List.replicate (k + 1) 0x20000000#32 ++
        (List.replicate (n + 1 - (k + 1)) 0x20000000#32 ++ ws) := by
      rw [hp, ← List.append_assoc, ← List.replicate_add, Nat.add_sub_of_le (hk.trans n.le_succ)]
    exact runSteps_tclk_counts k (by omega) hsplit
  · exact runSteps_tclk_fires n (mt (wselClass_eq_reserved_iff s.wsel).mp hw) hn hp

end Sys2Proof.Machine

/-! The LFO step (42_lfo.md): the levels of the waveforms, the step in each of its four cases (flat,
computed, drawn, held), and the two bounds on LFO_VALUE. -/

namespace Sys2Proof.Machine

variable {s t : State} {f dep del p v : ℕ}

/-! ### The computed levels -/

/-- The level a waveform computes from F, D, d and p (R173 to R179); the random waveform computes
none. -/
def computedLevel (f dep del p : ℕ) : Waveform → Option ℕ
  | .triangle => some (triangleLevel f dep del p)
  | .sawUp => some (sawUpLevel dep del p)
  | .sawDown => some (sawDownLevel dep del p)
  | .square => some (squareLevel f dep p)
  | .halfSquare => some (halfSquareLevel f dep p)
  | .halfSawUp => some (halfSawUpLevel f dep del p)
  | .halfSawDown => some (halfSawDownLevel f dep del p)
  | .random => none

/-- Every waveform but the random one computes a level. -/
theorem exists_computedLevel {w : BitVec 3} (hw : w ≠ 7) :
    ∃ v, computedLevel f dep del p (waveformOf w) = some v := by
  cases hc : waveformOf w with
  | random => exact absurd ((waveformOf_eq_random_iff w).mp hc) hw
  | _ => exact ⟨_, rfl⟩

theorem triangleLevel_le : triangleLevel f dep del p ≤ dep := by
  unfold triangleLevel
  split <;> exact Nat.min_le_right _ _

theorem squareLevel_le : squareLevel f dep p ≤ dep := by
  unfold squareLevel
  split <;> omega

theorem halfSquareLevel_le : halfSquareLevel f dep p ≤ dep := by
  unfold halfSquareLevel
  split <;> omega

theorem halfSawUpLevel_le : halfSawUpLevel f dep del p ≤ dep := by
  unfold halfSawUpLevel
  split <;> omega

theorem halfSawDownLevel_le : halfSawDownLevel f dep del p ≤ dep := by
  unfold halfSawDownLevel
  split <;> omega

/-- R181: a computed level stays within the depth. -/
theorem computedLevel_le {w : Waveform} (h : computedLevel f dep del p w = some v) : v ≤ dep := by
  cases w with
  | triangle => cases h; exact triangleLevel_le
  | sawUp => cases h; exact Nat.min_le_right _ _
  | sawDown => cases h; exact Nat.sub_le _ _
  | square => cases h; exact squareLevel_le
  | halfSquare => cases h; exact halfSquareLevel_le
  | halfSawUp => cases h; exact halfSawUpLevel_le
  | halfSawDown => cases h; exact halfSawDownLevel_le
  | random => cases h

/-! ### The drawn level -/

theorem drawLevel_lt (g : BitVec 16) (h : dep ≠ 0) : drawLevel g dep < dep := by
  rw [drawLevel, if_neg h]
  exact Nat.mod_lt _ (Nat.pos_of_ne_zero h)

theorem drawLevel_le (g : BitVec 16) : drawLevel g dep ≤ dep := by
  by_cases h : dep = 0
  · simp [drawLevel, h]
  · exact (drawLevel_lt g h).le

/-- A write of PRNG_B as writes of both fields, one of them keeping its value (R27). -/
theorem writePrngB_eq_set (g : BitVec 16) (s : State) :
    writePrngB g s = (s.setPrngA (if s.cfg.prngShared then g else s.prngA)).setPrngB
      (if s.cfg.prngShared then s.prngB else g) := by
  obtain ⟨hs, h⟩ | ⟨hs, h⟩ := writePrngB_cases g s <;> simp only [h, hs] <;> rfl

/-! ### The step by cases -/

/-- The phase an LFO step of `s` uses (R170, R172). -/
def State.lfoPhaseUsed (s : State) : ℕ := phaseUsed s.lfoFreq s.lfoPhase

theorem State.lfoPhaseUsed_of_lt (h : s.lfoPhase.toNat < s.lfoFreq.toNat) :
    s.lfoPhaseUsed = s.lfoPhase.toNat := if_neg h.not_ge

theorem State.lfoPhaseUsed_of_phase_zero (h : s.lfoPhase = 0) : s.lfoPhaseUsed = 0 := by
  simp [State.lfoPhaseUsed, phaseUsed, h]

theorem State.lfoPhaseUsed_of_freq_one (h : s.lfoFreq.toNat = 1) : s.lfoPhaseUsed = 0 := by
  rw [State.lfoPhaseUsed, phaseUsed]
  split <;> omega

/-- The engine after a step at the phase in use, with LFO_VALUE `v` (R170, R182). -/
def State.lfoAdvanced (v : BitVec 8) (s : State) : State :=
  s.setLfoEngine (phaseNext s.lfoFreq s.lfoPhaseUsed) v
    (decide (s.lfoPhaseUsed < s.lfoFreq.toNat / 2))

theorem State.lfoAdvanced_at_zero (hp : s.lfoPhaseUsed = 0) (v : BitVec 8) :
    s.lfoAdvanced v = s.setLfoEngine (if s.lfoFreq.toNat ≤ 1 then 0 else 1) v
      (decide (0 < s.lfoFreq.toNat / 2)) := by
  rw [State.lfoAdvanced, hp]
  rfl

/-- The level the selected waveform computes at the phase in use. -/
def State.lfoLevel (s : State) : Option ℕ :=
  computedLevel s.lfoFreq.toNat s.lfoDepth.toNat s.lfoDelta.toNat s.lfoPhaseUsed
    (waveformOf s.lfoWave)

theorem lfoStep_eq_lfoAdvance (hf : s.lfoFreq ≠ 0) :
    lfoStep s = lfoAdvance s.lfoPhaseUsed (lfoWave s.lfoPhaseUsed s) :=
  lfoStep_of_freq_ne_zero hf

theorem lfoWave_of_computedLevel
    (h : computedLevel s.lfoFreq.toNat s.lfoDepth.toNat s.lfoDelta.toNat p (waveformOf s.lfoWave) =
      some v) : lfoWave p s = putLfoValue v s := by
  unfold lfoWave
  cases hw : waveformOf s.lfoWave with
  | random => rw [hw] at h; cases h
  | _ => rw [hw] at h; cases h; rfl

theorem lfoWave_of_random (hw : s.lfoWave = 7) : lfoWave p s = lfoRandom p s := by
  have hr := (waveformOf_eq_random_iff _).mpr hw
  simp only [lfoWave, hr]

theorem lfoStep_of_lfoLevel (hf : s.lfoFreq ≠ 0) (h : s.lfoLevel = some v) :
    lfoStep s = s.lfoAdvanced (BitVec.ofNat 8 v) := by
  rw [lfoStep_eq_lfoAdvance hf, lfoWave_of_computedLevel h]
  rfl

/-- The random waveform at phase 0 (R180): the generator it reads takes one step, and the level is
drawn from the new value. -/
theorem lfoStep_of_draw (hf : s.lfoFreq ≠ 0) (hw : s.lfoWave = 7) (hp : s.lfoPhaseUsed = 0) :
    lfoStep s = writePrngB (prngNext (readPrngB s)) (s.lfoAdvanced
      (BitVec.ofNat 8 (drawLevel (prngNext (readPrngB s)) s.lfoDepth.toNat))) := by
  rw [lfoStep_eq_lfoAdvance hf, lfoWave_of_random hw, lfoRandom, if_pos hp, writePrngB_eq_set,
    writePrngB_eq_set]
  rfl

/-- The random waveform past phase 0 (R180): LFO_VALUE and the generators stay. -/
theorem lfoStep_of_hold (hf : s.lfoFreq ≠ 0) (hw : s.lfoWave = 7) (hp : s.lfoPhaseUsed ≠ 0) :
    lfoStep s = s.lfoAdvanced s.lfoValue := by
  rw [lfoStep_eq_lfoAdvance hf, lfoWave_of_random hw, lfoRandom, if_neg hp]
  rfl

/-! ### The value after a step -/

theorem toNat_ofNat_of_le_depth (h : v ≤ s.lfoDepth.toNat) : (BitVec.ofNat 8 v).toNat = v :=
  (BitVec.toNat_ofNat v 8).trans (Nat.mod_eq_of_lt (h.trans_lt s.lfoDepth.isLt))

theorem lfoStep_value_of_lfoLevel (hf : s.lfoFreq ≠ 0) (h : s.lfoLevel = some v) :
    (lfoStep s).lfoValue.toNat = v := by
  rw [lfoStep_of_lfoLevel hf h]
  exact toNat_ofNat_of_le_depth (computedLevel_le h)

theorem lfoStep_value_le_depth (hw : s.lfoWave ≠ 7) :
    (lfoStep s).lfoValue.toNat ≤ s.lfoDepth.toNat := by
  by_cases hf : s.lfoFreq = 0
  · rw [lfoStep_of_freq_zero hf]
    exact Nat.zero_le _
  · obtain ⟨v, hv⟩ : ∃ v, s.lfoLevel = some v := exists_computedLevel hw
    rw [lfoStep_value_of_lfoLevel hf hv]
    exact computedLevel_le hv

theorem lfoStep_draw_lt_depth (hf : s.lfoFreq ≠ 0) (hw : s.lfoWave = 7) (hp : s.lfoPhaseUsed = 0)
    (hd : s.lfoDepth.toNat ≠ 0) : (lfoStep s).lfoValue.toNat < s.lfoDepth.toNat := by
  rw [lfoStep_of_draw hf hw hp, writePrngB_eq_set]
  exact (toNat_ofNat_of_le_depth (drawLevel_le _)).trans_lt (drawLevel_lt _ hd)

theorem exec_lfostep_eq (s : State) :
    exec .lfostep s = .next ((lfoStep s).setResp ((lfoStep s).lfoValue.setWidth 16)) := rfl

/-- The response of LFOSTEP is the level the step writes, which fits in 8 bits (R181). -/
theorem exec_lfostep_of_level (ht : lfoStep s = t) (hv : t.lfoValue = BitVec.ofNat 8 v)
    (hle : v ≤ s.lfoDepth.toNat) :
    exec .lfostep s = .next (t.setResp (BitVec.ofNat 16 v)) := by
  subst ht
  have hresp : (lfoStep s).lfoValue.setWidth 16 = BitVec.ofNat 16 v := by
    rw [hv, BitVec.setWidth_ofNat_of_le_of_lt (by decide) (hle.trans_lt s.lfoDepth.isLt)]
  rw [exec_lfostep_eq, hresp]

/-! ### The obligations on one step -/

/-- Settles O46: the flat step writes the level 0. -/
theorem lfoIsFlatAtFrequencyZero : Obligations.LfoIsFlatAtFrequencyZero := fun _ hf =>
  exec_lfostep_of_level (lfoStep_of_freq_zero hf) rfl (Nat.zero_le _)

/-- Settles O47: each of the seven formulas is the level of its waveform. -/
theorem lfoStepComputesItsWaveform : Obligations.LfoStepComputesItsWaveform := by
  intro s F D d p h q v hf hF hD hd hp hh hq hv
  subst hF hD hd hp hh hq
  have hlevel : s.lfoLevel = some v := by
    simp only [Nat.shiftRight_eq_div_pow, Nat.reducePow] at hv
    rcases hv with ⟨hw, rfl⟩ | ⟨hw, rfl⟩ | ⟨hw, rfl⟩ | ⟨hw, rfl⟩ | ⟨hw, rfl⟩ | ⟨hw, rfl⟩ | ⟨hw, rfl⟩
    all_goals
      rw [State.lfoLevel, hw]
      rfl
  exact exec_lfostep_of_level (lfoStep_of_lfoLevel hf hlevel) rfl (computedLevel_le hlevel)

/-- Settles O48, by the step that draws and the step that holds. -/
theorem lfoRandomDrawsAtPhaseZero : Obligations.LfoRandomDrawsAtPhaseZero := by
  intro s F D p hf hw hF hD hp
  subst hF hD
  replace hp : s.lfoPhaseUsed = p := hp.symm
  refine ⟨fun h0 g v hg hv => ?_, fun h0 => ?_⟩
  · subst hg hv h0
    have hdraw := lfoStep_of_draw hf hw hp
    rw [State.lfoAdvanced_at_zero hp, writePrngB_eq_set] at hdraw
    exact exec_lfostep_of_level hdraw rfl (drawLevel_le _)
  · subst hp
    rw [exec_lfostep_eq, lfoStep_of_hold hf hw h0]
    rfl

/-- Settles O49, by the bound on each kind of level. -/
theorem lfoValueStaysWithinDepth : Obligations.LfoValueStaysWithinDepth := by
  intro s
  refine ⟨_, rfl, lfoStep_value_le_depth, fun hw hf hp hd => ?_⟩
  exact lfoStep_draw_lt_depth hf hw (State.lfoPhaseUsed_of_phase_zero hp)
    (mt (BitVec.eq_of_toNat_eq (y := 0)) hd)

/-! ### The triangle (R184) -/

theorem triangleLevel_at_zero (hf : 2 ≤ f) : triangleLevel f dep del 0 = 0 := by
  rw [triangleLevel, if_pos (by omega)]
  simp

/-- With F = 1 the delta is 256 D and phase 0 lies in the falling half, which saturates. -/
theorem triangleLevel_of_freq_one_at_zero : triangleLevel 1 dep (dep * 256 / 1) 0 = dep := by
  rw [triangleLevel, if_neg (by omega)]
  omega

/-- At F - 1 the fall has one phase left; for F of 2 or more, 2 d is at most 256 D, so nothing
saturates. -/
theorem triangleLevel_at_last (hf : 2 ≤ f) :
    triangleLevel f dep (dep * 256 / f) (f - 1) = 2 * (dep * 256 / f) / 256 := by
  have hdelta : dep * 256 / f ≤ dep * 256 / 2 := Nat.div_le_div_left hf two_pos
  rw [triangleLevel, if_neg (by omega), Nat.sub_sub_self (by omega), Nat.mul_one]
  exact Nat.min_eq_left (by omega)

theorem triangleLevel_at_half_eq_iff :
    triangleLevel f dep del (f / 2) = dep ↔ dep ≤ (f - f / 2) * 2 * del / 256 := by
  rw [triangleLevel, if_neg (lt_irrefl _), Nat.mul_comm 2]
  exact min_eq_right_iff

/-- Settles O50: the value after the step is the level of the triangle at the phase in use. -/
theorem trianglePropertiesAndTheirLimits : Obligations.TrianglePropertiesAndTheirLimits := by
  intro s F D d hF hD hF0 hw hd hdel
  subst hF hD hd
  simp only [Nat.shiftRight_eq_div_pow, Nat.reducePow]
  have hf : s.lfoFreq ≠ 0 := mt (congrArg BitVec.toNat) hF0
  have hlevel : s.lfoLevel = some (triangleLevel s.lfoFreq.toNat s.lfoDepth.toNat
      (s.lfoDepth.toNat * 256 / s.lfoFreq.toNat) s.lfoPhaseUsed) := by
    rw [State.lfoLevel, hw, hdel]
    rfl
  have hvalue := lfoStep_value_of_lfoLevel hf hlevel
  refine ⟨_, rfl, fun hp hF2 => ?_, fun hF1 => ?_, fun hF2 hp => ?_, fun hF2 hp => ?_⟩
  · rw [State.lfoPhaseUsed_of_phase_zero hp, triangleLevel_at_zero hF2] at hvalue
    exact BitVec.eq_of_toNat_eq hvalue
  · rw [State.lfoPhaseUsed_of_freq_one hF1, hF1, triangleLevel_of_freq_one_at_zero] at hvalue
    exact BitVec.eq_of_toNat_eq hvalue
  · rw [State.lfoPhaseUsed_of_lt (by omega), hp, triangleLevel_at_last hF2] at hvalue
    exact hvalue
  · rw [State.lfoPhaseUsed_of_lt (by omega), hp] at hvalue
    refine BitVec.toNat_inj.symm.trans (Iff.trans ?_ triangleLevel_at_half_eq_iff)
    exact iff_of_eq (congrArg (· = s.lfoDepth.toNat) hvalue)

end Sys2Proof.Machine

/-! The envelope (43_envelope.md): the step in its two cases, and the runs of ENVSTEPs that stay within
one period. -/

namespace Sys2Proof.Machine

variable {s : State}

/-! ### The step by cases -/

theorem envStep_of_freq_zero (hf : s.envFreq = 0) : envStep s = s.setEnvEngine 0 true := if_pos hf

theorem envStep_of_freq_ne_zero (hf : s.envFreq ≠ 0) :
    envStep s = s.setEnvEngine (phaseNext s.envFreq (phaseUsed s.envFreq s.envPhase))
      (decide (phaseUsed s.envFreq s.envPhase ≤ s.envWidth.toNat)) := if_neg hf

/-- The state after an ENVSTEP that used phase `p` (R190), with `ws` left on the port. -/
def State.gated (ws : List Word) (p : ℕ) (s : State) : State :=
  { s with
    envPhase := phaseNext s.envFreq p
    envGate := decide (p ≤ s.envWidth.toNat)
    port := ws
    resp := if p ≤ s.envWidth.toNat then 1 else 0 }

@[simp] theorem State.gated_envFreq (ws : List Word) (p : ℕ) (s : State) :
    (s.gated ws p).envFreq = s.envFreq := rfl

/-- Below ENV_FREQ the phase advances by one and does not wrap (R190). -/
theorem State.gated_envPhase_toNat (ws : List Word) {p : ℕ} (h : p + 1 < s.envFreq.toNat) :
    (s.gated ws p).envPhase.toNat = p + 1 := by
  change (phaseNext s.envFreq p).toNat = p + 1
  rw [phaseNext, if_neg h.not_ge]
  exact Nat.mod_eq_of_lt (h.trans s.envFreq.isLt)

/-- The last phase of a period is followed by phase 0 (R190, R193). -/
theorem State.gated_envPhase_of_last (ws : List Word) {p : ℕ} (h : s.envFreq.toNat ≤ p + 1) :
    (s.gated ws p).envPhase = 0 := if_pos h

/-- A step depends on the one before it by the phase alone. -/
theorem State.gated_gated (vs ws : List Word) (p q : ℕ) (s : State) :
    (s.gated vs p).gated ws q = s.gated ws q := rfl

theorem exec_envstep_of_freq_zero (hf : s.envFreq = 0) :
    exec .envstep s = .next { s with envPhase := 0, envGate := true, resp := 1 } := by
  change execEnvstep s = _
  rw [execEnvstep, envStep_of_freq_zero hf]
  rfl

theorem exec_envstep_of_freq_ne_zero (hf : s.envFreq ≠ 0) :
    exec .envstep s = .next (s.gated s.port (phaseUsed s.envFreq s.envPhase)) := by
  change execEnvstep s = _
  rw [execEnvstep, envStep_of_freq_ne_zero hf, bitWord_eq_ite, State.setEnvEngine_envGate]
  simp only [decide_eq_true_eq]
  rfl

/-- Settles O52: the two cases of ENVSTEP are the two cases of `env_step()`. -/
theorem envelopeStepGates : Obligations.EnvelopeStepGates := by
  refine fun s => ⟨exec_envstep_of_freq_zero, fun hf p hp => ?_⟩
  subst hp
  exact exec_envstep_of_freq_ne_zero hf

/-! ### Runs of ENVSTEPs within one period -/

theorem step_envstep_gates {ws : List Word} (hlt : s.envPhase.toNat < s.envFreq.toNat)
    (hp : s.port = encode .envstep :: ws) : step s = .next (s.gated ws s.envPhase.toNat) := by
  have hf : s.envFreq ≠ 0 := fun h0 => absurd hlt (by simp [h0])
  have hused : phaseUsed s.envFreq s.envPhase = s.envPhase.toNat := if_neg hlt.not_ge
  rw [step_of_decode_ok hp (decode_encode _), ← hused]
  exact exec_envstep_of_freq_ne_zero (s := s.setPort ws) hf

/-- ENVSTEP words from the port go through the phases one by one; the last step used the phase `k`
after the first one's (R190). -/
theorem runSteps_envstep_gates (k : ℕ) {ws : List Word}
    (hlt : s.envPhase.toNat + k < s.envFreq.toNat)
    (hp : s.port = List.replicate (k + 1) (encode .envstep) ++ ws) :
    runSteps (k + 1) s = .next (s.gated ws (s.envPhase.toNat + k)) := by
  induction k generalizing s with
  | zero => exact runSteps_succ (step_envstep_gates hlt hp)
  | succ k ih =>
    rw [runSteps_succ (step_envstep_gates (by omega) hp)]
    have hphase := State.gated_envPhase_toNat (s := s)
      (List.replicate (k + 1) (encode .envstep) ++ ws) (p := s.envPhase.toNat) (by omega)
    refine (ih (s := s.gated _ _) ?_ rfl).trans ?_
    · rw [hphase, State.gated_envFreq]
      omega
    · rw [hphase, State.gated_gated, Nat.add_assoc, Nat.add_comm 1]

/-- The phases of a period with the gate open are 0 to min(W, E - 1) (R193). -/
theorem length_filter_le_range {E : ℕ} (W : ℕ) (hE : 0 < E) :
    ((List.range E).filter fun p => decide (p ≤ W)).length = min W (E - 1) + 1 := by
  simp only [← Nat.lt_add_one_iff (n := W), ← List.Ico.zero_bot, List.Ico.filter_lt,
    List.Ico.length]
  omega

/-- Settles O53: the run of `p + 1` steps ends with the step at phase `p`, and the step at phase E - 1
wraps. -/
theorem envelopeGateOverOnePeriod : Obligations.EnvelopeGateOverOnePeriod := by
  intro s ws E W hE hW hpos h0 hp
  subst hE hW
  have hphase : s.envPhase.toNat = 0 := congrArg BitVec.toNat h0
  have hrun (p : ℕ) (hlt : p < s.envFreq.toNat) : runSteps (p + 1) s = .next
      (s.gated (List.replicate (s.envFreq.toNat - (p + 1)) (encode .envstep) ++ ws) p) := by
    have hsplit : s.port = List.replicate (p + 1) (encode .envstep) ++
        (List.replicate (s.envFreq.toNat - (p + 1)) (encode .envstep) ++ ws) := by
      rw [← List.append_assoc, ← List.replicate_add, Nat.add_sub_of_le hlt]
      exact hp
    have hgates := runSteps_envstep_gates p (by omega) hsplit
    rwa [hphase, Nat.zero_add] at hgates
  refine ⟨fun p hlt => ⟨_, hrun p hlt, rfl⟩, ?_, length_filter_le_range _ hpos⟩
  have hlast := hrun (s.envFreq.toNat - 1) (by omega)
  rw [Nat.sub_add_cancel hpos, Nat.sub_self] at hlast
  exact ⟨_, hlast, State.gated_envPhase_of_last _ (by omega), rfl⟩

end Sys2Proof.Machine

/-! The pitch resolver and the control tick (44_pitch_resolver.md): the period as a reduced integer, the
exact limits of both formulas, RESOLVE performed again, and CTICK in three commands. -/

namespace Sys2Proof.Machine

variable {s : State}

/-! ### The period modulo 2^16 -/

theorem wrapPeriod_eq_ofInt (v : ℤ) : wrapPeriod v = BitVec.ofInt 16 v := by
  apply BitVec.eq_of_toNat_eq
  rw [wrapPeriod, BitVec.toNat_ofNat, BitVec.toNat_ofInt]
  omega

theorem wrapPeriod_toNat (v : ℤ) : ((wrapPeriod v).toNat : ℤ) = v % 65536 := by
  rw [wrapPeriod, BitVec.toNat_ofNat]
  omega

/-! ### The exact value and its limits (R160, R161) -/

theorem exactPeriod_of_ext (h : s.ext = true) :
    exactPeriod s = (s.pitch.toNat : ℤ) - 4 * s.lfoValue.toNat := if_pos h

theorem exactPeriod_of_not_ext (h : s.ext = false) :
    exactPeriod s = 200 + 4 * ((s.pitch.toNat : ℤ) - s.lfoValue.toNat) := by
  rw [exactPeriod, h]
  rfl

theorem outOfRange_eq_decide (v : ℤ) : outOfRange v = decide (v < 0 ∨ 0xFFFF < v) :=
  (Bool.decide_or _ _).symm

/-- A 16-bit PITCH only falls short. -/
theorem outOfRange_iff_of_ext (h : s.ext = true) :
    outOfRange (exactPeriod s) = true ↔ s.pitch.toNat < 4 * s.lfoValue.toNat := by
  rw [outOfRange_eq_decide, decide_eq_true_iff, exactPeriod_of_ext h]
  have := s.pitch.isLt
  omega

/-- 50 is 200 / 4, and 16333 is (0xFFFF - 200) / 4 rounded down. -/
theorem outOfRange_iff_of_not_ext (h : s.ext = false) :
    outOfRange (exactPeriod s) = true ↔
      s.pitch.toNat + 50 < s.lfoValue.toNat ∨ s.lfoValue.toNat + 16333 < s.pitch.toNat := by
  rw [outOfRange_eq_decide, decide_eq_true_iff, exactPeriod_of_not_ext h]
  omega

/-! ### RESOLVE -/

/-- RESOLVE is the resolver's writes, with PERIOD as the response (R160, R162). -/
theorem exec_resolve_eq (s : State) :
    exec .resolve s = .next
      ((s.setResolved (wrapPeriod (exactPeriod s)) (outOfRange (exactPeriod s))).setResp
        (wrapPeriod (exactPeriod s))) := by
  change execResolve s = _
  rw [execResolve, resolvePitch_eq_setResolved]
  rfl

theorem State.setResolved_eq_record (n : BitVec 16) (x : Bool) (s : State) :
    s.setResolved n x = { s with
      period := n
      count := if n = s.period then s.count else if n.toNat < s.count.toNat then 0 else s.count
      rangeErr := s.rangeErr || x } := by
  simp only [State.setResolved, ite_and, ne_eq, ite_not]
  rfl

/-- Settles O54: the resolver's writes as a record update, its two abbreviations read as integers. -/
theorem resolveProgramsThePeriod : Obligations.ResolveProgramsThePeriod := by
  intro s v n hv hn
  subst hv hn
  rw [exec_resolve_eq, State.setResolved_eq_record, wrapPeriod_eq_ofInt, outOfRange_eq_decide]
  rfl

/-- A flag `r` that a condition sets and nothing clears, as RANGE_ERR (R45). -/
theorem stickyFlag_of_iff {b r : Bool} {p : Prop} (h : b = true ↔ p) :
    (p → (r || b) = true) ∧ (¬p → (r || b) = r) :=
  ⟨fun hp => by rw [h.mpr hp, Bool.or_true],
    fun hp => by rw [Bool.eq_false_iff.mpr (mt h.mp hp), Bool.or_false]⟩

/-- Settles O55: the limits of each formula, and the period as the exact value modulo 2^16. -/
theorem rangeErrorExactlyOutsideSixteenBits : Obligations.RangeErrorExactlyOutsideSixteenBits := by
  refine fun s => ⟨_, exec_resolve_eq s, fun h => ⟨?_, ?_⟩, fun h => ⟨?_, ?_⟩⟩
  · exact stickyFlag_of_iff (outOfRange_iff_of_ext h)
  · rw [← exactPeriod_of_ext h]
    exact wrapPeriod_toNat _
  · exact stickyFlag_of_iff (outOfRange_iff_of_not_ext h)
  · rw [← exactPeriod_of_not_ext h]
    exact wrapPeriod_toNat _

/-! ### RESOLVE again -/

/-- A command does not depend on the last response (log 2). -/
theorem exec_setResp (i : Instr) (r : BitVec 16) (s : State) : exec i (s.setResp r) = exec i s := by
  refine (exec_setIface s.port r s i).trans ?_
  cases h : exec i s with
  | next t =>
    obtain ⟨-, hport, -⟩ := registersHaveFixedWriters i s t h
    rw [← hport]
    rfl
  | fault e => rfl
  | refused q => rfl

/-- Programming the period already held keeps COUNT (R164). -/
theorem State.setResolved_count_of_eq {n : BitVec 16} (x : Bool) (h : n = s.period) :
    (s.setResolved n x).count = s.count := if_neg fun ⟨hne, _⟩ => hne h

/-- The second time PERIOD holds the value already, and the flag is up where it was to be set. -/
theorem State.setResolved_setResolved (n : BitVec 16) (x : Bool) (s : State) :
    (s.setResolved n x).setResolved n x = s.setResolved n x := by
  rw [State.setResolved_eq_record n x (s.setResolved n x), State.setResolved_eq_record n x s]
  simp only [if_true, Bool.or_assoc, Bool.or_self]

theorem exactPeriod_setResolved (n : BitVec 16) (x : Bool) (s : State) :
    exactPeriod (s.setResolved n x) = exactPeriod s := rfl

/-- Settles O56: the exact value does not depend on what the resolver writes. -/
theorem resolvingTheSamePeriodKeepsTheCount : Obligations.ResolvingTheSamePeriodKeepsTheCount := by
  refine fun s => ⟨_, exec_resolve_eq s,
    State.setResolved_count_of_eq (outOfRange (exactPeriod s)), ?_⟩
  rw [exec_setResp, exec_resolve_eq, exactPeriod_setResolved, State.setResolved_setResolved]

/-! ### CTICK -/

/-- The LFO step neither reads nor writes the envelope's engine. -/
theorem lfoStep_setEnvEngine (q : BitVec 8) (g : Bool) (s : State) :
    lfoStep (s.setEnvEngine q g) = (lfoStep s).setEnvEngine q g := by
  by_cases hf : s.lfoFreq = 0
  · rw [lfoStep_of_freq_zero hf, lfoStep_of_freq_zero (s := s.setEnvEngine q g) hf]
    rfl
  · by_cases hw : s.lfoWave = 7
    · by_cases hp : s.lfoPhaseUsed = 0
      · rw [lfoStep_of_draw hf hw hp, lfoStep_of_draw (s := s.setEnvEngine q g) hf hw hp,
          writePrngB_eq_set, writePrngB_eq_set]
        rfl
      · rw [lfoStep_of_hold hf hw hp, lfoStep_of_hold (s := s.setEnvEngine q g) hf hw hp]
        rfl
    · obtain ⟨v, hv⟩ : ∃ v, s.lfoLevel = some v := exists_computedLevel hw
      rw [lfoStep_of_lfoLevel hf hv, lfoStep_of_lfoLevel (s := s.setEnvEngine q g) hf hv]
      rfl

/-- The envelope step neither reads nor writes the LFO's engine and the generators. -/
theorem envStep_setLfoAll (a b : BitVec 16) (p v : BitVec 8) (i : Bool) (s : State) :
    envStep (s.setLfoAll a b p v i) = (envStep s).setLfoAll a b p v i := by
  unfold envStep
  rw [apply_ite (State.setLfoAll a b p v i)]
  rfl

/-- R163: the two steps may be exchanged. -/
theorem lfoStep_envStep_comm (s : State) : lfoStep (envStep s) = envStep (lfoStep s) := by
  obtain ⟨q, g, henv⟩ := envStep_spec s
  obtain ⟨a, b, p, v, i, hlfo, -⟩ := lfoStep_spec s
  rw [henv, lfoStep_setEnvEngine, hlfo, envStep_setLfoAll, henv]
  rfl

/-- Settles O57: each command of a sequence meets the state before it without its response. -/
theorem ctickIsLfoEnvelopeResolve : Obligations.CtickIsLfoEnvelopeResolve := by
  refine fun s => ⟨_, _, _, rfl, exec_setResp .envstep _ (lfoStep s),
    exec_setResp .resolve _ (envStep (lfoStep s)), rfl,
    _, _, rfl, exec_setResp .lfostep _ (envStep s), ?_⟩
  rw [respond_eq_setResp, exec_setResp, lfoStep_envStep_comm]
  rfl

end Sys2Proof.Machine

/-! Writes of the register map (R216 to R222): each register's write as one record update. -/

namespace Sys2Proof.Machine

variable {s t : State}

/-- A write that its register accepts answers 0 (R216). -/
theorem exec_wrreg_of_some {r : Reg} {d : BitVec 16} (h : writeReg r d s = some t) :
    exec (.wrreg (regAddr r) d) s = .next { t with resp := 0 } := by
  change execWrreg (regAddr r) d s = _
  simp only [execWrreg, writeAddr, regAt_regAddr, h]
  rfl

/-! ### WSEL -/

/-- The selection a write of WSEL asks for is D[4:0] (R217). -/
theorem selection_eq_setWidth (d : BitVec 16) : d.extractLsb' 0 5 = d.setWidth 5 :=
  (BitVec.setWidth_eq_extractLsb' (by decide)).symm

theorem selection_toNat (d : BitVec 16) : (d.setWidth 5).toNat = d.toNat % 32 :=
  BitVec.toNat_setWidth 5 d

theorem wselWrite_of_ne {d : BitVec 16} (hc : wselClass (d.extractLsb' 0 5) ≠ .reserved)
    (hne : d.extractLsb' 0 5 ≠ s.wsel) :
    wselWrite d s = some (selectSource (d.extractLsb' 0 5) s) := by
  simp only [wselWrite, if_neg hc, if_neg hne]

theorem patternOf_eq_get (c : Config) (n : BitVec 5) :
    patternOf c n = c.patternTable.get (Fin.ofNat 8 n.toNat) := by
  rw [patternOf, wselIdx_toFin]

/-- Only the three index bits of D select the pattern. -/
theorem patternOf_setWidth (c : Config) (d : BitVec 16) :
    patternOf c (d.setWidth 5) = c.patternTable.get (Fin.ofNat 8 d.toNat) := by
  have hidx : d.toNat % 32 % 8 = d.toNat % 8 := Nat.mod_mod_of_dvd _ (by decide)
  rw [patternOf_eq_get, selection_toNat]
  exact congrArg c.patternTable.get (Fin.ext hidx)

theorem selectSource_of_pattern {n : BitVec 5} (h : wselClass n = .pattern) :
    selectSource n s = { s with wsel := n, pattern := patternOf s.cfg n } := if_pos h

theorem selectSource_of_not_pattern {n : BitVec 5} (h : wselClass n ≠ .pattern) :
    selectSource n s = { s with wsel := n } := if_neg h

theorem exec_wrreg_wsel_of_eq {d : BitVec 16} (hc : (d.setWidth 5).toNat / 8 ≠ 3)
    (he : d.setWidth 5 = s.wsel) : exec (.wrreg 0x00 d) s = .next { s with resp := 0 } := by
  rw [← selection_eq_setWidth] at hc he
  exact exec_wrreg_of_some (r := .wsel)
    (wselWrite_of_eq (mt (wselClass_eq_reserved_iff _).mp hc) he)

theorem exec_wrreg_wsel_of_ne {d : BitVec 16} (hc : (d.setWidth 5).toNat / 8 ≠ 3)
    (hne : d.setWidth 5 ≠ s.wsel) :
    exec (.wrreg 0x00 d) s = .next { selectSource (d.setWidth 5) s with resp := 0 } := by
  rw [← selection_eq_setWidth] at hc hne ⊢
  exact exec_wrreg_of_some (r := .wsel)
    (wselWrite_of_ne (mt (wselClass_eq_reserved_iff _).mp hc) hne)

/-- Settles O26: the class and the selection as numbers decide the outcome. -/
theorem wselWriteSelectsAndReloads : Obligations.WselWriteSelectsAndReloads := by
  intro s d
  refine ⟨fun hc => commandsRefusedByValue.1 s 0x00 d (.inr (.inr ⟨rfl, hc⟩)), ?_⟩
  rw [← selection_toNat, ← patternOf_setWidth]
  refine ⟨fun hc he => exec_wrreg_wsel_of_eq hc (BitVec.eq_of_toNat_eq he), fun hne hc => ?_,
    fun hne hc => ?_⟩
  · have hpat := (wselClass_eq_pattern_iff _).mpr hc
    rw [exec_wrreg_wsel_of_ne (by omega) (ne_of_apply_ne _ hne), selectSource_of_pattern hpat]
  · have hpat := mt (wselClass_eq_pattern_iff (d.setWidth 5)).mp (by omega)
    rw [exec_wrreg_wsel_of_ne (by omega) (ne_of_apply_ne _ hne), selectSource_of_not_pattern hpat]

/-! ### PITCH -/

theorem pitchWrite_of_ext (d : BitVec 16) (h : s.ext = true) : pitchWrite d s = s := if_pos h

theorem pitchWrite_of_not_ext (d : BitVec 16) (h : s.ext = false) : pitchWrite d s = s.setPitch d :=
  if_neg (Bool.not_eq_true _ ▸ h)

/-- Settles O27, by EXT. -/
theorem pitchWriteIsDroppedUnderExt : Obligations.PitchWriteIsDroppedUnderExt := fun _ d =>
  ⟨fun h => exec_wrreg_of_some (r := .pitch) (congrArg some (pitchWrite_of_not_ext d h)),
    fun h => exec_wrreg_of_some (r := .pitch) (congrArg some (pitchWrite_of_ext d h))⟩

/-! ### The LFO and envelope parameters -/

/-- An 8-bit parameter is D[7:0] (R220, R222). -/
theorem parameter_eq_setWidth (d : BitVec 16) : d.extractLsb' 0 8 = d.setWidth 8 :=
  (BitVec.setWidth_eq_extractLsb' (by decide)).symm

theorem parameter_toNat (d : BitVec 16) : (d.setWidth 8).toNat = d.toNat % 256 :=
  BitVec.toNat_setWidth 8 d

theorem deltaOf_eq_ite (f dep : BitVec 8) :
    deltaOf f dep =
      if f.toNat = 0 then 0 else BitVec.ofNat 16 (dep.toNat * 256 / f.toNat) :=
  if_congr BitVec.toNat_eq rfl rfl

theorem exec_wrreg_lfoFreq (d : BitVec 16) (s : State) :
    exec (.wrreg 0x06 d) s = .next { s with
      lfoFreq := d.setWidth 8, lfoDelta := deltaOf (d.setWidth 8) s.lfoDepth, resp := 0 } := by
  rw [← parameter_eq_setWidth]
  exact exec_wrreg_of_some (r := .lfoFreq) rfl

theorem exec_wrreg_lfoDepth (d : BitVec 16) (s : State) :
    exec (.wrreg 0x07 d) s = .next { s with
      lfoDepth := d.setWidth 8, lfoDelta := deltaOf s.lfoFreq (d.setWidth 8), resp := 0 } := by
  rw [← parameter_eq_setWidth]
  exact exec_wrreg_of_some (r := .lfoDepth) rfl

theorem exec_wrreg_lfoWave (d : BitVec 16) (s : State) :
    exec (.wrreg 0x08 d) s = .next { s with lfoWave := d.setWidth 3, resp := 0 } := by
  rw [BitVec.setWidth_eq_extractLsb' (by decide)]
  exact exec_wrreg_of_some (r := .lfoWave) rfl

/-- Settles O28: LFO_DELTA is the function of R33 at the new parameters. -/
theorem lfoParameterWritesRecomputeDelta : Obligations.LfoParameterWritesRecomputeDelta := by
  intro s d
  rw [← parameter_toNat, ← deltaOf_eq_ite, ← deltaOf_eq_ite]
  exact ⟨exec_wrreg_lfoFreq d s, exec_wrreg_lfoDepth d s, exec_wrreg_lfoWave d s⟩

/-- Settles O29: each parameter is D[7:0]. -/
theorem envelopeParameterWrites : Obligations.EnvelopeParameterWrites := by
  intro s d
  rw [← parameter_eq_setWidth]
  exact ⟨exec_wrreg_of_some (r := .envFreq) rfl, exec_wrreg_of_some (r := .envWidth) rfl⟩

/-! ### STATUS -/

theorem getLsbD_eq_decide {w : ℕ} (v : BitVec w) (k : ℕ) :
    v.getLsbD k = decide (v.toNat / 2 ^ k % 2 = 1) := by
  rw [← BitVec.testBit_toNat, Nat.testBit_eq_decide_div_mod_eq]

/-- A flag that a condition clears (R219). -/
theorem and_not_decide_eq_ite (r : Bool) (p : Prop) [Decidable p] :
    (r && !decide p) = if p then false else r := by
  rw [Bool.if_false_left, Bool.and_comm]

theorem statusWrite_eq_record (d : BitVec 16) (s : State) :
    statusWrite d s = { s with
      rangeErr := if d.toNat / 32 % 2 = 1 then false else s.rangeErr
      cmdErr := if d.toNat / 64 % 2 = 1 then false else s.cmdErr } := by
  rw [statusWrite, getLsbD_eq_decide d 5, getLsbD_eq_decide d 6, and_not_decide_eq_ite,
    and_not_decide_eq_ite]
  rfl

/-- Settles O30: the two flag bits of D as numbers. -/
theorem statusWriteClearsFlags : Obligations.StatusWriteClearsFlags := fun s d =>
  exec_wrreg_of_some (r := .status) (congrArg some (statusWrite_eq_record d s))

end Sys2Proof.Machine

/-! NOP and the note events (R215, R225 to R231), and the words of their opcodes. -/

namespace Sys2Proof.Machine

variable {s t : State}

/-! ### EXT -/

/-- A command writes EXT only to set it (R226). -/
theorem exec_keeps_ext {i : Instr} (h : exec i s = .next t) (hs : s.ext = true) : t.ext = true := by
  cases exec_effect h with
  | noteon | noteoff | stop => rfl
  | _ => simpa [State.setResolved] using hs

/-- Settles O20: neither idling nor `reject()` writes EXT, so only a command could clear it. -/
theorem noteEventsSetExtAndNothingClearsIt : Obligations.NoteEventsSetExtAndNothingClearsIt := by
  constructor
  · intro e s
    cases e with
    | noteOn n | noteOff n | stop => exact ⟨_, rfl, rfl⟩
  · intro s t hs h
    obtain ⟨-, rfl⟩ | ⟨w, ws, -, ⟨i, -, he⟩ | ⟨e, -, rfl⟩⟩ := step_cases h
    · exact hs
    · exact exec_keeps_ext he hs
    · exact hs

/-! ### Words with another bit set -/

/-- A step on an ILLEGAL word takes it and performs `reject()` (R86). -/
theorem step_rejects {w : Word} (hw : ∃ e, decode w = .error e) :
    ∀ (s : State) (ws : List Word), s.port = w :: ws →
      step s = .next { s with port := ws, cmdErr := true, resp := 0 } := by
  obtain ⟨e, he⟩ := hw
  exact fun s ws hp => (illegalWordsAreTheThreeCasesAndReject w).2 s ws e he hp

/-- A word with the OP of NOP or STOP is ILLEGAL where any other bit is set. -/
theorem bareWord_illegal {w : Word} (hop : w.toNat / 16777216 = 0x00 ∨ w.toNat / 16777216 = 0x42)
    (hbits : w.toNat % 16777216 ≠ 0) : ∃ e, decode w = .error e := by
  rw [(illegalWordsAreTheThreeCasesAndReject w).1]
  simp only [List.mem_cons, List.not_mem_nil, or_false]
  omega

/-- A word with the OP of a note command is ILLEGAL where a bit above the note is set. -/
theorem noteWord_illegal {w : Word} (hop : w.toNat / 16777216 = 0x40 ∨ w.toNat / 16777216 = 0x41)
    (hbits : w.toNat % 16777216 / 128 ≠ 0) : ∃ e, decode w = .error e := by
  rw [(illegalWordsAreTheThreeCasesAndReject w).1]
  simp only [List.mem_cons, List.not_mem_nil, or_false]
  omega

/-! ### NOP and STOP -/

/-- Settles O25: 0 is the word of NOP, and with OP 0 any other word has a bit set below OP. -/
theorem nopChangesNothing : Obligations.NopChangesNothing := by
  refine ⟨fun s => rfl, fun w => decode_eq_ok_iff, fun w hop hne => step_rejects ?_⟩
  have hbits : w.toNat ≠ 0 := BitVec.toNat_ne.mp hne
  exact bareWord_illegal (.inl hop) (by omega)

/-- Settles O60: with the OP of STOP any word but its own has a bit set below OP. -/
theorem stopClearsNoteOn : Obligations.StopClearsNoteOn := by
  refine ⟨fun s => rfl, decode_encode .stop, fun w hop hne => step_rejects ?_⟩
  have hbits : w.toNat ≠ 0x42000000 := BitVec.toNat_ne.mp hne
  exact bareWord_illegal (.inr hop) (by omega)

/-! ### NOTEON and NOTEOFF -/

/-- The note is added to the word of its command with note 0 (R85). -/
theorem cmdWord_note (op : BitVec 8) (n : BitVec 7) :
    cmdWord op 0#8 (n.setWidth 16) = cmdWord op 0#8 0#16 + n.setWidth 32 := by
  apply BitVec.eq_of_toNat_eq
  rw [BitVec.toNat_add, cmdWord_toNat, cmdWord_toNat, BitVec.toNat_setWidth_of_le (by decide),
    BitVec.toNat_setWidth_of_le (by decide), BitVec.toNat_zero, BitVec.toNat_zero]
  omega

theorem notePitch_eq_get (c : Config) (n : BitVec 7) :
    notePitch c n = c.notePeriod.get (Fin.ofNat 128 n.toNat) :=
  congrArg c.notePeriod.get (Fin.ext (Nat.mod_eq_of_lt n.isLt).symm)

/-- Settles O58: the pitch is the entry of the table, and the words are the note added to OP. -/
theorem noteonStartsTheNote : Obligations.NoteonStartsTheNote := by
  refine ⟨fun s n => ?_, fun n => decode_eq_ok_iff.mpr (cmdWord_note 0x40 n).symm,
    fun w hop hbits => step_rejects (noteWord_illegal (.inl hop) hbits)⟩
  rw [← notePitch_eq_get]
  rfl

/-- NOTE_ON after NOTEOFF: cleared by the last note, kept by another (R230). -/
theorem exec_noteoff_eq (n : BitVec 7) (s : State) :
    exec (.noteoff n) s =
      .next { s with ext := true, noteOn := s.noteOn && !(n == s.lastNote), resp := 0 } := rfl

/-- Settles O59, by whether the note is LAST_NOTE. -/
theorem noteoffEndsTheMatchingNote : Obligations.NoteoffEndsTheMatchingNote := by
  refine ⟨fun s n => ⟨fun he => ?_, fun hne => ?_⟩,
    fun n => decode_eq_ok_iff.mpr (cmdWord_note 0x41 n).symm,
    fun w hop hbits => step_rejects (noteWord_illegal (.inr hop) hbits)⟩
  · rw [exec_noteoff_eq, beq_iff_eq.mpr he, Bool.not_true, Bool.and_false]
  · rw [exec_noteoff_eq, beq_eq_false_iff_ne.mpr hne, Bool.not_false, Bool.and_true]

end Sys2Proof.Machine

/-! Power-on and reset (R260 to R262): the condition on the seeds, and the reset table. -/

namespace Sys2Proof.Machine

/-! ### Power-on -/

/-- A configuration is valid where no seed is 0 (R262). -/
theorem config_valid_iff (c : Config) : c.valid = true ↔
    ¬(c.prngASeed = 0 ∨ c.prngBSeed = 0 ∨ c.poly4Seed = 0 ∨ c.poly5Seed = 0) := by
  simp only [Config.valid, Bool.and_eq_true, bne_iff_ne, ne_eq, not_or, and_assoc]

theorem powerOn_of_valid {c : Config} (hc : c.valid = true) :
    powerOn c = .next (State.resetWith c) := if_pos hc

theorem powerOn_of_not_valid {c : Config} (hc : ¬c.valid = true) :
    powerOn c = .refused .badConfiguration := if_neg hc

/-- Settles O14: power-on tests validity, and a valid configuration is one without a zero seed. -/
theorem powerOnRefusesZeroSeeds : Obligations.PowerOnRefusesZeroSeeds := by
  intro c
  have hvalid := config_valid_iff c
  exact ⟨fun hzero => powerOn_of_not_valid fun hc => hvalid.mp hc hzero,
    fun hnone => powerOn_of_valid (hvalid.mpr hnone)⟩

/-! ### The reset table -/

/-- RDREG STATUS answers the STATUS view and keeps every register (R48, R68). -/
theorem exec_rdreg_status (s : State) : exec (.rdreg 0x10) s = .next (s.setResp (statusWord s)) := rfl

/-- NOTE_ON (bit 0) and ENV_GATE (bit 2) are set at reset, and no other flag is (R260). -/
theorem statusWord_resetWith (c : Config) : statusWord (State.resetWith c) = 0x0005 := by
  apply BitVec.eq_of_toNat_eq
  rw [statusWord_toNat]
  rfl

/-- With one shared generator a read of PRNG_B at reset finds the seed of PRNG_A (R27, R260). -/
theorem readPrngB_resetWith (c : Config) : readPrngB (State.resetWith c) =
    if c.prngShared then c.prngASeed else c.prngBSeed := rfl

/-- Settles O13: power-on answers only the reset state, whose fields are the entries of the table;
PRNG_B and STATUS are not fields but views of them. -/
theorem resetLeavesTheTabulatedValues : Obligations.ResetLeavesTheTabulatedValues := by
  intro c s h
  obtain ⟨-, rfl⟩ := powerOn_eq_next h
  have hstatus : exec (.rdreg 0x10) (State.resetWith c) =
      .next { State.resetWith c with resp := 0x0005 } := by
    rw [exec_rdreg_status, statusWord_resetWith]
    rfl
  exact ⟨rfl, rfl, rfl, readPrngB_resetWith c, rfl, rfl, rfl,
    rfl, rfl, rfl, rfl, -- the LFO parameters
    rfl, rfl, rfl, -- the LFO engine
    rfl, rfl, rfl, rfl, -- the envelope
    rfl, rfl, rfl, -- PERIOD, COUNT and OUT
    rfl, rfl, rfl, rfl, rfl, -- the note and error flags
    hstatus⟩

end Sys2Proof.Machine

/-! The empty command port (log 1; R252). -/

namespace Sys2Proof.Machine

/-- Settles O10: a step that finds no word on the port takes none and idles, and idling keeps the
state. -/
theorem stepWithoutACommandKeepsTheState : Obligations.StepWithoutACommandKeepsTheState :=
  fun _ hport => step_of_port_nil hport

end Sys2Proof.Machine
